-- ==== Sys2Proof/Word.lean ====
section
/-! DEFINITION. The bit-vector types the manual treats as bits (00, Numbers and units; Addresses and data). -/

namespace Sys2Proof

/-- The smallest addressable unit of the line image. -/
abbrev Byte := BitVec 8

/-- A word is a 4-byte quantity (00, Addresses and data). -/
abbrev Word := BitVec 32

/-- A full bus address: the bus is 32 bits wide (00, Placement on the memory bus). -/
abbrev Address := BitVec 32

/-- An offset inside the 64 KiB line image (R157). -/
abbrev Offset := BitVec 16

end Sys2Proof
end

