-- ==== Sys2Proof/Syntax.lean ====
section
/-! DEFINITION. The commands of the part: one constructor for each row of spec/opcode_table.json, with the row's operands. A host command is the ARRIVAL of its transaction (R159); its effect comes at TRANSACTION_FORWARD and at the image response. -/

namespace Sys2Proof

/-- A host access is 1, 2 or 4 bytes (00, Addresses and data). -/
inductive Size where
  | one | two | four
  deriving DecidableEq, Repr

/-- The destination of INSERT: the return queue, or the station field, which is wide enough for 0 to 31 (R15, R173). -/
inductive Destination where
  | queue
  | station (k : Fin 32)
  deriving DecidableEq, Repr

/-- The three axes of an offset and of the gauge data words (R127). -/
inductive Axis where
  | x | y | z
  deriving DecidableEq, Repr

/-- A station has a clear input and a presence input, each with its own filter (R79). -/
inductive FieldInput where
  | clear | presence
  deriving DecidableEq, Repr

/-- A host access through a view: a read, or a write of data (R171). -/
inductive Access where
  | read (size : Size)
  | write (size : Size) (data : Word)
  deriving DecidableEq, Repr

/-- The 61 steps of spec/opcode_table.json, in the table's order. -/
inductive Instr where
  | openSetup
  | closeSetup
  | beginAlign
  | stop
  | trip
  | insert (pallet : Fin 64) (variant : Fin 8) (dest : Destination)
  | remove (pallet : Fin 64)
  | setVariant (pallet : Fin 64) (variant : Fin 8)
  | quarantine (pallet : Fin 64)
  | release (pallet : Fin 64)
  | rejectBlock (pallet : Fin 64)
  | confirm (station : Fin 32)
  | resolveIndex (outcome : Fin 4)
  | hold
  | resume
  | releaseStation (station : Fin 32)
  | index (override : Bool)
  | transferNone (override : Bool)
  | start (station : Fin 28) (casting : Bool)
  | cycleStartNone (station : Fin 28) (casting : Bool)
  | tagGood (reader : Fin 4) (pallet : Fin 64) (complement : Fin 64)
  | tagNoRead (reader : Fin 4) (pallet : Fin 64) (complement : Fin 64)
  | gaugeDataWrite (axis : Axis) (value : Word)
  | gaugeHeaderValid (pallet : Fin 64)
  | gaugeHeaderProbeFail (pallet : Fin 64)
  | captureClearWrite (lane : Fin 4) (size : Size) (data : Word)
  | viewSelectorWrite (lane : Fin 4) (size : Size) (data : Word)
  | flagWordWrite (lane : Fin 4) (size : Size) (data : Word)
  | flagEnableWrite (lane : Fin 4) (size : Size) (data : Word)
  | dropRecordClear (lane : Fin 4) (size : Size) (data : Word)
  | configurationWrite (offset : Offset) (size : Size) (data : Word)
  | patchRuleWrite (offset : Offset) (size : Size) (data : Word)
  | patchedWrite (station : Fin 28) (word : Fin 64) (lane : Fin 4) (size : Size) (data : Word)
  | stationViewAccess (station : Fin 28) (offset : Fin 256) (access : Access)
  | rovingViewAccess (offset : Fin 256) (access : Access)
  | hostWriteOther (address : Address) (size : Size) (data : Word)
  | transactionForward
  | imageResponseOk (data : Word)
  | imageResponseError
  | imageResponseTimeout
  | staleResponseDiscard
  | atRestFall
  | atRestRise
  | driveFaultRise
  | driveFaultFall
  | estopActive
  | estopInactive
  | controllerResetAssert
  | controllerResetDeassert
  | powerOnReset (straps : BitVec 16)
  | clearInputChange (station : Fin 28) (level : Bool)
  | presenceInputChange (station : Fin 28) (level : Bool)
  | filterSettle (station : Fin 28) (input : FieldInput)
  | timeBaseTick
  | indexSlowMark
  | indexLimitMark
  | ackMark (station : Fin 28)
  | warnMark (station : Fin 28)
  | limitMark (station : Fin 28)
  | alignWindowExpiry
  | hostRead (address : Address) (size : Size)
  deriving DecidableEq, Repr

end Sys2Proof
end

