-- ==== Sys2Proof/Decode.lean ====
section
/-! DEFINITION. The command a word spells by the opcode table's bits. The table gives no row any bits (its "fields" are empty), so no word spells a command: commands reach the part as bus and field events, not as encoded words (log 22). -/

namespace Sys2Proof

/-- No row of spec/opcode_table.json has bits, so no word spells one. -/
def decodeTableWord (_nbits _w : Nat) : Option Instr := none

end Sys2Proof
end

