-- ==== Sys2Proof/Config.lean ====
section
/-! DEFINITION. What the part fixes: the bounds of its counts and the places of its windows. The spec leaves no value of a result open, so there is no free value here (INVENTORY.md, What the manual leaves open). -/

namespace Sys2Proof.Config

/-- Saturating counts of 16 bits stop here (R5, R191). -/
def countMax : Nat := 65535

/-- Ungauged passes stop here (R138). -/
def ungaugedMax : Nat := 15

/-- The tick boundary after forwarding at which a transaction without an image response ends (R164). -/
def responseLimit : Nat := 2

/-- First offset of the station command windows (R158). -/
def commandBase : Nat := 0x2000

/-- First offset of the station views (R158). -/
def viewBase : Nat := 0x4000

/-- First offset of the roving view (R158). -/
def rovingBase : Nat := 0x5C00

/-- First offset of the pallet work records (R158). -/
def workBase : Nat := 0x6000

end Sys2Proof.Config
end

