-- ==== Sys2Proof/Machine/State.lean ====
section
/-! DEFINITION. The state of the part as plain data, block by block as the manual's block overview lists them (00), its value right after power-on reset, and the ways a step can stop. -/

namespace Sys2Proof.Machine

/-- Pallet numbers 0 to 63 (00, Numbers and units). -/
abbrev PalletNo := Fin 64

/-- Station positions 0 to 27 (R8). -/
abbrev StationNo := Fin 28

/-- Reader numbers 0 to 3 (00). -/
abbrev ReaderNo := Fin 4

/-- A pallet's service state (R2). -/
inductive Service where
  | out | inService | quarantine
  deriving DecidableEq, Repr

/-- A pallet's block state (R3). -/
inductive Block where
  | empty | inWork | reject
  deriving DecidableEq, Repr

/-- One signed quantity per axis, in micrometres (R127). -/
structure Axes where
  x : Int
  y : Int
  z : Int
  deriving DecidableEq, Repr

/-- One record of the pallet table (R1). -/
structure Pallet where
  service : Service
  variant : Fin 6
  block : Block
  offset : Axes
  ungauged : Nat
  laps : Nat
  lost : Bool
  gauged : Bool
  deriving DecidableEq, Repr

/-- How far the part believes a map entry (R9). -/
inductive Status where
  | predicted | confirmed | uncertain
  deriving DecidableEq, Repr

/-- One entry position of the line map (R8). -/
structure MapEntry where
  pallet : Option PalletNo
  status : Status
  deriving DecidableEq, Repr

/-- The tracking unit: the pallet table, the line map and the return queue, head first (R1, R8, R11). -/
structure Tracking where
  pallets : Vector Pallet 64
  map : Vector MapEntry 28
  queue : List PalletNo
  deriving DecidableEq, Repr

/-- A recorded elapsed time with its indications (R29, R55). -/
structure Capture where
  value : Nat
  valid : Bool
  overwritten : Bool
  deriving DecidableEq, Repr

/-- A tick counter with marks. `due` is the model's own: a tick boundary that would bring the count to a mark has passed, and the step that takes it has not yet been taken (log 3). -/
structure MarkTimer where
  count : Nat
  running : Bool
  due : Bool
  deriving DecidableEq, Repr

/-- The index state (R29). -/
inductive IndexState where
  | idle | indexing
  deriving DecidableEq, Repr

/-- The index gate's state (R29). -/
structure IndexGate where
  state : IndexState
  motionSeen : Bool
  timer : MarkTimer
  capture : Capture
  frozen : Bool
  permit : Bool
  deriving DecidableEq, Repr

/-- An engagement that stands; START is its only kind (R55, R61). -/
structure Engagement where
  casting : Bool
  acknowledged : Bool
  deriving DecidableEq, Repr

/-- An input filter: idle, or a pending level with its held count (R79). `due` as in `MarkTimer` (log 3). -/
inductive FilterState where
  | idle
  | pending (level : Bool) (held : Nat) (due : Bool)
  deriving DecidableEq, Repr

/-- A filtered station input: the line's level, its filtered value and the filter (R55, R79). -/
structure InputLine where
  level : Bool
  filtered : Bool
  filter : FilterState
  deriving DecidableEq, Repr

/-- The station monitor's state of one station position (R55). The budget unit runs exactly under R55's condition, which is computed, not held. -/
structure Station where
  engagement : Option Engagement
  budget : Nat
  budgetDue : Bool
  warn : Bool
  noAck : Bool
  limit : Bool
  capture : Capture
  clear : InputLine
  presence : InputLine
  enable : Bool
  deriving DecidableEq, Repr

/-- The station monitor (R55). -/
structure Monitor where
  stations : Vector Station 28
  held : Bool
  deriving DecidableEq, Repr

/-- The seven line states (R85). -/
inductive LineState where
  | setup | prepared | aligning | producing | restricted | stopped | tripped
  deriving DecidableEq, Repr

/-- The trip causes (R83, R93). -/
inductive TripCause where
  | none | tripCommand | estop | driveFault | indexTimeout | clearLost | mapConflict | controllerReset
  deriving DecidableEq, Repr

/-- The eight cycle fault kinds (R100). -/
inductive CycleFault where
  | noAck | overrun | tagMismatch | tagMissing | uncertainMoved | presenceMismatch | patchOverflow
  | unloadMissed
  deriving DecidableEq, Repr

/-- The line state controller (R83). A cycle fault set is one bit per kind (11, Status and report words). -/
structure LineController where
  state : LineState
  tripCause : TripCause
  stopPending : Bool
  failed : Nat
  clean : Nat
  cycle : BitVec 8
  current : BitVec 8
  last : BitVec 8
  deriving DecidableEq, Repr

/-- The quality of a tag (05, The tag word). -/
inductive Quality where
  | good | noRead
  deriving DecidableEq, Repr

/-- What the identity checker did with a tag (R113). -/
inductive TagOutcome where
  | noRead | matched | uncertain | corrected | conflict
  deriving DecidableEq, Repr

/-- The record of the last tag taken (R113). -/
structure TagRecord where
  reader : ReaderNo
  station : StationNo
  quality : Quality
  palletRead : Option PalletNo
  entryBefore : Option PalletNo
  outcome : TagOutcome
  cycle : BitVec 8
  deriving DecidableEq, Repr

/-- The identity checker (R107). -/
structure Identity where
  tag : Option TagRecord
  remaining : Nat
  timer : MarkTimer
  corrected : Bool
  aborted : Bool
  deriving DecidableEq, Repr

/-- The width of a patch rule's field (R143). -/
inductive Width where
  | byte | half | word
  deriving DecidableEq, Repr

/-- The operation of a patch rule (R144). -/
inductive PatchOp where
  | addX | addY | addZ | subX | subY | subZ | scale
  deriving DecidableEq, Repr

/-- One patch rule (R142). -/
structure PatchRule where
  enabled : Bool
  station : StationNo
  word : Fin 64
  width : Width
  signed : Bool
  op : PatchOp
  trap : Bool
  deriving DecidableEq, Repr

/-- The line parameters (R177). -/
structure LineParams where
  stationCount : Fin 29
  returnCap : Nat
  variantCount : Fin 7
  filterMs : Nat
  indexSlow : Nat
  indexLimit : Nat
  failRestrict : Nat
  failHalt : Nat
  recoverCycles : Nat
  alignAttempts : Nat
  alignWindow : Nat
  ungaugedLimit : Nat
  maxStep : Nat
  offsetLimit : Nat
  deriving DecidableEq, Repr

/-- The role of a station (R178). -/
inductive Role where
  | load | machine | gauge | unload
  deriving DecidableEq, Repr

/-- How effective presence is formed (R80). -/
inductive PresenceMode where
  | auto | forcePresent | forceAbsent
  deriving DecidableEq, Repr

/-- One station descriptor (R178). -/
structure Descriptor where
  role : Role
  reader : Option ReaderNo
  authority : Bool
  mode : PresenceMode
  ack : Nat
  warn : Nat
  limit : Nat
  deriving DecidableEq, Repr

/-- One variant table entry; bit k of the map is set where the variant passes station k (R179; 11, Configuration blocks). -/
structure VariantEntry where
  code : Nat
  ratio : Nat
  passes : BitVec 28
  deriving DecidableEq, Repr

/-- The configuration store (R175). -/
structure ConfigStore where
  params : LineParams
  descriptors : Vector Descriptor 28
  variants : Vector VariantEntry 6
  deriving DecidableEq, Repr

/-- The 22 flags (R186). -/
inductive Flag where
  | refused | reportOverrun | stateChange | cycleFailed | indexDone | slowIndex | stationWarn
  | overrun | noAck | captureOverwrite | tagMismatch | presenceMismatch | patchOverflow
  | stepLimited | quarantined | alignAborted | alignCorrected | estop | driveFault | imageError
  | imageTimeout | indexDropped
  deriving DecidableEq, Repr

/-- The 32 refusal causes (11, Refusal causes). -/
inductive Cause where
  | notInState | indexInFlight | stopPending | held | estopActive | driveFaulted
  | transferNotAtRest | stationEngaged | stationNotClear | returnFull | overrideRequired
  | tagPending | uncertainEntry | emptyStation | blockState | variantPass | stationState
  | palletState | location | badArgument | resolvePending | gaugeLate | gaugeMismatch
  | patchOverflow | partialPatch | malformed | unknownCommand | badConfig | readOnly | noStation
  | misaligned | imageError
  deriving DecidableEq, Repr

/-- The kind of a transaction (R157). -/
inductive Kind where
  | read | write
  deriving DecidableEq, Repr

/-- The refusal report (R190). -/
structure RefusalReport where
  cause : Cause
  kind : Kind
  outside : Bool
  offset : Offset
  station : Option (Fin 32)
  pallet : Option PalletNo
  cycle : BitVec 8
  deriving DecidableEq, Repr

/-- The flag and report unit (R186, R188, R190, R191). -/
structure FlagUnit where
  flags : BitVec 22
  enables : BitVec 22
  report : RefusalReport
  refusals : Nat
  deriving DecidableEq, Repr

/-- What the classifier does with a transaction that it does not refuse (00, Placement on the memory bus; R158): a cycle-start request it lets through carries its station and CASTING (R61), a patched write whether its result overflowed with trap off (R153). -/
inductive Treatment where
  | pass | snoop | overlay | redirect
  | patch (overflowed : Bool)
  | cycleStart (station : StationNo) (casting : Bool)
  deriving DecidableEq, Repr

/-- The stage of the transaction in progress (R157, R161). -/
inductive Stage where
  | arrived | forwarded
  deriving DecidableEq, Repr

/-- The controller-port transaction in progress (R157). `sent` is the data that goes out on the image port: the host's, or the rewritten data of a patched write (R162). `decidedCause` is held only within an arrival: a refused transaction is answered at once (R159). -/
structure Transaction where
  kind : Kind
  address : Address
  outside : Bool
  size : Size
  data : Word
  treatment : Treatment
  target : Address
  sent : Word
  decidedCause : Option Cause
  stage : Stage
  deriving DecidableEq, Repr

/-- The image-response timer (R157). -/
structure ResponseTimer where
  count : Nat
  running : Bool
  deriving DecidableEq, Repr

/-- The drop record (R168). -/
structure DropRecord where
  valid : Bool
  offset : Offset
  cause : Cause
  cycle : BitVec 8
  deriving DecidableEq, Repr

/-- The last answer of the controller port: the model's own view of that output (log 12). -/
inductive Reply where
  | none
  | ok
  | okData (data : Word)
  | error
  deriving DecidableEq, Repr

/-- The transaction classifier (R157, R172). -/
structure Classifier where
  base : BitVec 16
  record : Option Transaction
  timer : ResponseTimer
  stale : Bool
  drop : DropRecord
  selector : Word
  reply : Reply
  deriving DecidableEq, Repr

/-- The unfiltered field inputs, as active or asserted (R41, R42, R96, R97, R194). -/
structure Pins where
  atRest : Bool
  driveFault : Bool
  estop : Bool
  controllerReset : Bool
  deriving DecidableEq, Repr

/-- The whole state of the part, and the queue of commands waiting, first in first out. -/
structure State where
  classifier : Classifier
  tracking : Tracking
  gate : IndexGate
  monitor : Monitor
  line : LineController
  identity : Identity
  compensation : Axes
  patch : Vector PatchRule 24
  config : ConfigStore
  flagUnit : FlagUnit
  pins : Pins
  pending : List Instr
  deriving DecidableEq, Repr

/-- How a step can stop. Both arise only from what the bus protocols rule out. -/
inductive Fault where
  /-- Raised by the arrival of a host transaction while one is in progress, which R161 says the host bus never presents. Safe: the model stops where the hardware has no stated behaviour (log 4). -/
  | hostPortBusy
  /-- Raised by an image response when the image port owes none: no transaction is FORWARDED and the stale indication is clear. Safe: the spec gives such a response no effect (log 5), nor one that the memory still owed when power-on reset came (log 33). -/
  | responseNotOwed
  deriving DecidableEq, Repr

/-- A command without a meaning. -/
inductive Refusal where
  /-- Raised by an arm of exec whose command has no meaning yet. Safe: nothing is claimed about it. -/
  | notModelled (mnemonic : String)
  deriving DecidableEq, Repr

/-- Offsets or deviations all 0 (R7, R128). -/
def Axes.zero : Axes := ⟨0, 0, 0⟩

/-- A pallet record after power-on reset (R7). -/
def Pallet.powerOn : Pallet :=
  { service := .out, variant := 0, block := .empty, offset := .zero, ungauged := 0, laps := 0,
    lost := false, gauged := false }

/-- A map position after power-on reset (R10), and one outside the map (R8). -/
def MapEntry.vacant : MapEntry := { pallet := none, status := .confirmed }

/-- Value 0, valid and overwritten clear (R30, R56). -/
def Capture.powerOn : Capture := { value := 0, valid := false, overwritten := false }

/-- A timer at 0 and stopped (R30, R108). -/
def MarkTimer.stopped : MarkTimer := { count := 0, running := false, due := false }

/-- A filtered input whose effective value is its level, its filter idle (R56). -/
def InputLine.settled (level : Bool) : InputLine :=
  { level := level, filtered := level, filter := .idle }

/-- A station position after power-on reset, with the input levels found (R56). -/
def Station.powerOn (clear presence : Bool) : Station :=
  { engagement := none, budget := 0, budgetDue := false, warn := false, noAck := false,
    limit := false, capture := .powerOn, clear := .settled clear, presence := .settled presence,
    enable := false }

/-- The power-on line parameters (R177). -/
def LineParams.powerOn : LineParams :=
  { stationCount := 3, returnCap := 36, variantCount := 1, filterMs := 5, indexSlow := 8000,
    indexLimit := 15000, failRestrict := 3, failHalt := 6, recoverCycles := 10, alignAttempts := 3,
    alignWindow := 10000, ungaugedLimit := 4, maxStep := 50, offsetLimit := 500 }

/-- The power-on station descriptors (R178). -/
def Descriptor.powerOn (k : StationNo) : Descriptor :=
  { role := if k.val = 0 then .load else if k.val = 2 then .unload else .machine
    reader := if k.val = 0 then some 0 else none
    authority := false, mode := .auto, ack := 1000, warn := 30000, limit := 60000 }

/-- The power-on variant table entry (R179). -/
def VariantEntry.powerOn : VariantEntry := { code := 0, ratio := 100, passes := 0 }

/-- The power-on patch rule (R145). -/
def PatchRule.powerOn : PatchRule :=
  { enabled := false, station := 0, word := 1, width := .word, signed := true, op := .addX,
    trap := false }

/-- The all-zero refusal report (R190). -/
def RefusalReport.powerOn : RefusalReport :=
  { cause := .notInState, kind := .read, outside := false, offset := 0, station := none,
    pallet := none, cycle := 0 }

/-- The part right after power-on reset, on a quiet line: the straps all low, the bar at rest, no drive fault, the emergency stop released, the host out of reset, every station clear and no presence (DESIGN CHOICE for these input levels, log 10; everything else as the spec states it). -/
def State.reset : State :=
  { classifier :=
      { base := 0, record := none, timer := { count := 0, running := false }, stale := false,
        drop := { valid := false, offset := 0, cause := .notInState, cycle := 0 },
        selector := 0, reply := .none }
    tracking :=
      { pallets := Vector.replicate 64 .powerOn, map := Vector.replicate 28 .vacant, queue := [] }
    gate :=
      { state := .idle, motionSeen := false, timer := .stopped, capture := .powerOn,
        frozen := false, permit := false }
    monitor := { stations := Vector.replicate 28 (.powerOn true false), held := false }
    line :=
      { state := .setup, tripCause := .none, stopPending := false, failed := 0, clean := 0,
        cycle := 0, current := 0, last := 0 }
    identity :=
      { tag := none, remaining := 0, timer := .stopped, corrected := false, aborted := false }
    compensation := .zero
    patch := Vector.replicate 24 .powerOn
    config :=
      { params := .powerOn, descriptors := Vector.ofFn Descriptor.powerOn,
        variants := Vector.replicate 6 .powerOn }
    flagUnit := { flags := 0, enables := 0, report := .powerOn, refusals := 0 }
    pins := { atRest := true, driveFault := false, estop := false, controllerReset := false }
    pending := [] }

end Sys2Proof.Machine
end

