-- ==== Sys2Proof/Machine/Flags.lean ====
section
/-! DEFINITION. The flag and report unit: the flag word, the enables, the interrupt output, the refusal report and the cycle fault sets' bits (10, 11, R100). -/

namespace Sys2Proof.Machine

/-- The position of a flag in the flag word (11, Status and report words). -/
def Flag.bit : Flag → Nat
  | .refused => 0
  | .reportOverrun => 1
  | .stateChange => 2
  | .cycleFailed => 3
  | .indexDone => 4
  | .slowIndex => 5
  | .stationWarn => 6
  | .overrun => 7
  | .noAck => 8
  | .captureOverwrite => 9
  | .tagMismatch => 10
  | .presenceMismatch => 11
  | .patchOverflow => 12
  | .stepLimited => 13
  | .quarantined => 14
  | .alignAborted => 15
  | .alignCorrected => 16
  | .estop => 17
  | .driveFault => 18
  | .imageError => 19
  | .imageTimeout => 20
  | .indexDropped => 21

/-- The position of a cycle fault kind in both sets (11). -/
def CycleFault.bit : CycleFault → Nat
  | .noAck => 0
  | .overrun => 1
  | .tagMismatch => 2
  | .tagMissing => 3
  | .uncertainMoved => 4
  | .presenceMismatch => 5
  | .patchOverflow => 6
  | .unloadMissed => 7

/-- The code of a refusal cause (11, Refusal causes). -/
def Cause.code : Cause → Nat
  | .notInState => 0
  | .indexInFlight => 1
  | .stopPending => 2
  | .held => 3
  | .estopActive => 4
  | .driveFaulted => 5
  | .transferNotAtRest => 6
  | .stationEngaged => 7
  | .stationNotClear => 8
  | .returnFull => 9
  | .overrideRequired => 10
  | .tagPending => 11
  | .uncertainEntry => 12
  | .emptyStation => 13
  | .blockState => 14
  | .variantPass => 15
  | .stationState => 16
  | .palletState => 17
  | .location => 18
  | .badArgument => 19
  | .resolvePending => 20
  | .gaugeLate => 21
  | .gaugeMismatch => 22
  | .patchOverflow => 23
  | .partialPatch => 24
  | .malformed => 25
  | .unknownCommand => 26
  | .badConfig => 27
  | .readOnly => 28
  | .noStation => 29
  | .misaligned => 30
  | .imageError => 31

/-- The flag stands in the flag word. -/
def State.hasFlag (s : State) (f : Flag) : Bool := s.flagUnit.flags.getLsbD f.bit

/-- Sets a flag; one already set stays set (R186). -/
def State.raise (f : Flag) (s : State) : State :=
  { s with flagUnit := { s.flagUnit with flags := s.flagUnit.flags ||| BitVec.twoPow 22 f.bit } }

/-- Sets a flag where its event has occurred. -/
def State.raiseIf (c : Bool) (f : Flag) (s : State) : State := if c then s.raise f else s

/-- Clears every flag whose position is written as 1; bits that carry no flag have no effect (R187). -/
def State.clearFlags (written : Word) (s : State) : State :=
  { s with flagUnit :=
    { s.flagUnit with flags := s.flagUnit.flags &&& ~~~(written.setWidth 22) } }

/-- The interrupt output: asserted while a set flag has its enable set (R189). -/
def State.interrupt (s : State) : Bool := s.flagUnit.flags &&& s.flagUnit.enables != 0

/-- The current cycle fault set holds the kind. -/
def State.hasFault (s : State) (f : CycleFault) : Bool := s.line.current.getLsbD f.bit

/-- Adds a kind to the current cycle fault set; one it already holds leaves it as it is (R100). -/
def State.addFault (f : CycleFault) (s : State) : State :=
  { s with line := { s.line with current := s.line.current ||| BitVec.twoPow 8 f.bit } }

/-- Adds a kind where its event has occurred. -/
def State.addFaultIf (c : Bool) (f : CycleFault) (s : State) : State :=
  if c then s.addFault f else s

/-- A count that stops at its maximum. -/
def saturate (max n : Nat) : Nat := if n < max then n + 1 else n

/-- At each refusal: REPORT_OVERRUN if REFUSED is set, REFUSED, the report replaced whole, the count (R191). -/
def State.recordRefusal (r : RefusalReport) (s : State) : State :=
  let marked := (s.raiseIf (s.hasFlag .refused) .reportOverrun).raise .refused
  { marked with flagUnit :=
    { marked.flagUnit with
      report := r, refusals := saturate Config.countMax s.flagUnit.refusals } }

end Sys2Proof.Machine
end

