-- ==== Sys2Proof/Machine/Ops.lean ====
section
/-! DEFINITION. The shared operations over State: the accessors of each block's state, the order of checks, the outputs, a change of line state, and a trip with what every block does at it (R50, R77, R81, R94, R99, R125). -/

namespace Sys2Proof.Machine

/-- The cause of the first check that fails, in the order a rule gives its checks; none where all pass. -/
def firstFailure : List (Bool × Cause) → Option Cause
  | [] => none
  | (passes, cause) :: rest => if passes then firstFailure rest else some cause

/-- STATION_COUNT (R177). -/
def State.stationCount (s : State) : Nat := s.config.params.stationCount.val

/-- The position is a station of the line: it is numbered below STATION_COUNT (R8). -/
def State.inLine (s : State) (k : StationNo) : Bool := k.val < s.stationCount

/-- Station STATION_COUNT−1, the unload station (00, Numbers and units). -/
def State.unloadStation (s : State) : StationNo :=
  ⟨s.config.params.stationCount.val - 1, by omega⟩

/-- The 28 station positions in order. -/
def allStations : List StationNo := List.finRange 28

/-- The stations 0 to STATION_COUNT−1 in order. -/
def State.lineStations (s : State) : List StationNo := allStations.filter s.inLine

/-- Map entry k (R8). -/
def State.entry (s : State) (k : StationNo) : MapEntry := s.tracking.map[k.val]

/-- The record of pallet p (R1). -/
def State.pallet (s : State) (p : PalletNo) : Pallet := s.tracking.pallets[p.val]

/-- The station monitor's state of position k (R55). -/
def State.station (s : State) (k : StationNo) : Station := s.monitor.stations[k.val]

/-- The descriptor of position k (R178). -/
def State.descriptor (s : State) (k : StationNo) : Descriptor := s.config.descriptors[k.val]

/-- The variant table entry of a variant number (R179). -/
def State.variantEntry (s : State) (v : Fin 6) : VariantEntry := s.config.variants[v.val]

/-- Replaces map entry k. -/
def State.setEntry (k : StationNo) (e : MapEntry) (s : State) : State :=
  { s with tracking := { s.tracking with map := s.tracking.map.set k.val e } }

/-- Sets the status of entry k and leaves its pallet part: a status claim (R24). -/
def State.setStatus (k : StationNo) (st : Status) (s : State) : State :=
  s.setEntry k { s.entry k with status := st }

/-- Replaces the record of pallet p. -/
def State.setPallet (p : PalletNo) (r : Pallet) (s : State) : State :=
  { s with tracking := { s.tracking with pallets := s.tracking.pallets.set p.val r } }

/-- Replaces the return queue. -/
def State.setQueue (q : List PalletNo) (s : State) : State :=
  { s with tracking := { s.tracking with queue := q } }

/-- Replaces the station monitor's state of position k. -/
def State.setStation (k : StationNo) (st : Station) (s : State) : State :=
  { s with monitor := { s.monitor with stations := s.monitor.stations.set k.val st } }

/-- Applies a change to the station monitor's state of every position. -/
def State.mapStations (f : StationNo → Station → Station) (s : State) : State :=
  { s with monitor :=
    { s.monitor with stations := Vector.ofFn fun k => f k (s.station k) } }

/-- An index is in flight (R29). -/
def State.indexing (s : State) : Bool := s.gate.state = .indexing

/-- The line state is one of those listed. -/
def State.lineIn (s : State) (states : List LineState) : Bool := states.contains s.line.state

/-- A station that names a reader (R33, R109). -/
def State.isReaderStation (s : State) (k : StationNo) : Bool :=
  s.inLine k && (s.descriptor k).reader.isSome

/-- The entry holds a pallet. -/
def MapEntry.occupied (e : MapEntry) : Bool := e.pallet.isSome

/-- The budget unit of a station runs (R55): engaged, below the LIMIT mark, HELD clear, not TRIPPED. -/
def State.unitRuns (s : State) (k : StationNo) : Bool :=
  (s.station k).engagement.isSome && (s.station k).budget < (s.descriptor k).limit &&
    !s.monitor.held && s.line.state != .tripped

/-- Effective presence: the filtered input under the station's presence mode (R80). -/
def State.present (s : State) (k : StationNo) : Bool :=
  match (s.descriptor k).mode with
  | .auto => (s.station k).presence.filtered
  | .forcePresent => true
  | .forceAbsent => false

/-- The line states that permit the enable outputs (R81). -/
def LineState.permitsEnables : LineState → Bool
  | .prepared | .aligning | .producing | .restricted | .stopped => true
  | .setup | .tripped => false

/-- The two conditions of the enable output of a station of the line (R81). -/
def State.enablePermitted (s : State) (k : StationNo) : Bool :=
  s.inLine k && s.line.state.permitsEnables && !s.indexing

/-- The enable outputs follow their conditions (R81). -/
def State.refreshEnables (s : State) : State :=
  s.mapStations fun k st => { st with enable := s.enablePermitted k }

/-- The line states whose entry clears STOP_PENDING (R91, R99). -/
def LineState.endsStop : LineState → Bool
  | .stopped | .tripped | .setup => true
  | .prepared | .aligning | .producing | .restricted => false

/-- Entry to a line state: STATE_CHANGE on a change, STOP_PENDING cleared on entry to STOPPED, TRIPPED and SETUP, the enables following (R81, R99). -/
def State.enterLine (l : LineState) (s : State) : State :=
  let noted := s.raiseIf (s.line.state != l) .stateChange
  { noted with line :=
    { noted.line with state := l, stopPending := s.line.stopPending && !l.endsStop } }
  |>.refreshEnables

/-- Stops a timer: it keeps its count, and a boundary not yet taken no longer arises (log 3). -/
def MarkTimer.stop (t : MarkTimer) : MarkTimer := { t with running := false, due := false }

/-- Starts a timer from 0 (R36, R121). -/
def MarkTimer.restart : MarkTimer := { count := 0, running := true, due := false }

/-- The index gate at IDLE again: permit deasserted, timer stopped, motion-seen cleared (R45, R50). -/
def IndexGate.toIdle (g : IndexGate) : IndexGate :=
  { g with state := .idle, motionSeen := false, timer := g.timer.stop, permit := false }

/-- Abandonment of an index in flight (R50). -/
def State.abandonIndex (s : State) : State :=
  { s with gate := { s.gate.toIdle with frozen := true } }

/-- The alignment attempt ends without success or exhaustion: the align timer stops (R125). -/
def State.endAlignment (s : State) : State :=
  { s with identity := { s.identity with timer := s.identity.timer.stop } }

/-- The budget units stop; a boundary not yet taken no longer arises (R72, R77, log 3). -/
def State.stopUnits (s : State) : State := s.mapStations fun _ st => { st with budgetDue := false }

/-- A trip claim. It is not taken in SETUP or TRIPPED (R93). Taken, the cause is recorded, an index in flight is abandoned, an alignment attempt ends, the units stop and the line enters TRIPPED (R94). -/
def State.trip (cause : TripCause) (s : State) : State :=
  if s.lineIn [.setup, .tripped] then s
  else
    let s1 := { s with line := { s.line with tripCause := cause } }
    let s2 := if s1.line.state = .aligning then s1.endAlignment else s1
    let s3 := if s2.indexing then s2.abandonIndex else s2
    s3.stopUnits.enterLine .tripped

/-- A capture taken: overwritten follows the valid indication it finds (R46, R68). -/
def Capture.take (value : Nat) (c : Capture) : Capture :=
  { value := value, valid := true, overwritten := c.valid }

/-- A capture cleared by the capture-clear word: valid and overwritten, not the value (R47, R70). -/
def Capture.clearMarks (c : Capture) : Capture := { c with valid := false, overwritten := false }

end Sys2Proof.Machine
end

