-- ==== Sys2Proof/Machine/Tracking.lean ====
section
/-! DEFINITION. The tracking unit: where a pallet stands, the claims of other blocks, and the map shift (R6, R19, R23 to R28). -/

namespace Sys2Proof.Machine

/-- The derived location of a pallet (R6). -/
inductive Location where
  | none
  | station (k : StationNo)
  | queue (position : Nat)
  deriving DecidableEq, Repr

/-- The station of the line whose entry holds the pallet. -/
def State.stationOf (s : State) (p : PalletNo) : Option StationNo :=
  s.lineStations.find? fun k => (s.entry k).pallet == some p

/-- The location of a pallet, derived from the map and the queue (R6). -/
def State.location (s : State) (p : PalletNo) : Location :=
  match s.stationOf p with
  | some k => .station k
  | none =>
    match s.tracking.queue.findIdx? (· == p) with
    | some i => .queue i
    | none => .none

/-- The pallet stands in the return queue. -/
def State.queued (s : State) (p : PalletNo) : Bool := s.tracking.queue.contains p

/-- The pallet leaves the queue, and the entries behind it close up (R11). -/
def State.unqueue (p : PalletNo) (s : State) : State := s.setQueue (s.tracking.queue.erase p)

/-- Changes a pallet's service state alone. -/
def State.setService (p : PalletNo) (v : Service) (s : State) : State :=
  s.setPallet p { s.pallet p with service := v }

/-- Changes a pallet's block state alone (R3). -/
def State.setBlock (p : PalletNo) (b : Block) (s : State) : State :=
  s.setPallet p { s.pallet p with block := b }

/-- The change of R19 to a pallet in IN_SERVICE: OUT and out of the queue where it is queued, QUARANTINE where it stands in a map entry. -/
def State.quarantinePallet (p : PalletNo) (s : State) : State :=
  if s.queued p then (s.unqueue p).setService p .out else s.setService p .quarantine

/-- A quarantine claim of the compensation unit: QUARANTINED is set, and an IN_SERVICE pallet is quarantined (R19, R140). -/
def State.quarantineClaim (p : PalletNo) (s : State) : State :=
  let flagged := s.raise .quarantined
  if (s.pallet p).service = .inService then flagged.quarantinePallet p else flagged

/-- A block state claim on the pallet of an entry; nothing where the entry holds none (R23). -/
def State.claimBlock (k : StationNo) (b : Block) (s : State) : State :=
  match (s.entry k).pallet with
  | some p => s.setBlock p b
  | none => s

/-- The pallet displaced by a correction becomes OUT with lost set (R25, 1). -/
def State.displace (q : PalletNo) (s : State) : State :=
  s.setPallet q { s.pallet q with service := .out, lost := true }

/-- A correction claim: entry k takes the read pallet p CONFIRMED, in service, IN_WORK if the displaced pallet was (R25). `arrives` says that k is the gauge station, at which the correction is an arrival and clears gauged this pass (R137). -/
def State.correctEntry (k : StationNo) (p : PalletNo) (arrives : Bool) (s : State) : State :=
  let before := (s.entry k).pallet
  let inWork : Bool := match before with
    | some q => (s.pallet q).block == .inWork
    | none => false
  let displaced := match before with
    | some q => s.displace q
    | none => s
  let record := displaced.pallet p
  (displaced.setPallet p
    { record with
      service := .inService
      block := if inWork then .inWork else .empty
      gauged := record.gauged && !arrives }).setEntry k
    { pallet := some p, status := .confirmed }

/-- The unload exit: laps, a non-EMPTY block to REJECT with UNLOAD_MISSED, QUARANTINE to OUT, IN_SERVICE to the queue tail (R26). -/
def State.unloadExit (s : State) : State :=
  match (s.entry s.unloadStation).pallet with
  | none => s
  | some u =>
    let r := s.pallet u
    let left := s.setPallet u
      { r with
        laps := saturate Config.countMax r.laps
        block := if r.block = .empty then .empty else .reject
        service := if r.service = .quarantine then .out else r.service }
    let faulted := left.addFaultIf (r.block != .empty) .unloadMissed
    if r.service = .inService then faulted.setQueue (faulted.tracking.queue ++ [u]) else faulted

/-- The status of a carried entry: UNCERTAIN stays, any other becomes PREDICTED (R27, 1). -/
def Status.carried : Status → Status
  | .uncertain => .uncertain
  | .predicted | .confirmed => .predicted

/-- An entry carried forward one station (R27, 1). -/
def MapEntry.carried (e : MapEntry) : MapEntry := { e with status := e.status.carried }

/-- The entry that position k takes as the bar moves: the queue head at station 0, the carried entry of the station before up to the unload station, its own beyond it (R27). -/
def State.shiftedEntry (s : State) (k : StationNo) : MapEntry :=
  if k.val = 0 then { pallet := s.tracking.queue.head?, status := .predicted }
  else if s.inLine k then (s.entry ⟨k.val - 1, by omega⟩).carried
  else s.entry k

/-- The entries move forward and the load station takes the queue head (R27). -/
def State.moveEntries (s : State) : State :=
  { s with tracking :=
    { s.tracking with
      map := Vector.ofFn fun k => s.shiftedEntry k, queue := s.tracking.queue.tail } }

/-- The map shift: the unload exit, then the entries forward (R26, R27). -/
def State.mapShift (s : State) : State := s.unloadExit.moveEntries

/-- The queue has room for a pallet leaving the unload station (R28; check 10 of R33; check 3 of R52). -/
def State.exitHasRoom (s : State) : Bool :=
  match (s.entry s.unloadStation).pallet with
  | some u =>
    (s.pallet u).service != .inService || s.tracking.queue.length < s.config.params.returnCap
  | none => true

end Sys2Proof.Machine
end

