-- ==== Sys2Proof/Machine/Gauge.lean ====
section
/-! DEFINITION. The compensation unit: the gauge station, applying a result, and the ungauged accounting (R129, R134 to R138). -/

namespace Sys2Proof.Machine

/-- The stations of the line whose descriptor role is GAUGE. -/
def State.gaugeRoles (s : State) : List StationNo :=
  s.lineStations.filter fun k => (s.descriptor k).role = .gauge

/-- The gauge station: the one station of the line with role GAUGE, if it lies strictly between the load and the unload station (R129). -/
def State.gaugeStation (s : State) : Option StationNo :=
  match s.gaugeRoles with
  | [g] => if 0 < g.val && g.val + 1 < s.stationCount then some g else none
  | _ => none

/-- The step of one axis: the deviation limited to MAX_STEP either way (R134). -/
def limitStep (maxStep : Nat) (d : Int) : Int :=
  if d > maxStep then maxStep else if d < -(maxStep : Int) then -(maxStep : Int) else d

/-- The offset of one axis after a step: the sum, held at OFFSET_LIMIT with the sum's sign (R135). -/
def clampOffset (limit : Nat) (sum : Int) : Int :=
  if sum.natAbs ≤ limit then sum else if sum < 0 then -(limit : Int) else limit

/-- The deviation is limited on this axis (R134). -/
def stepLimited (maxStep : Nat) (d : Int) : Bool := limitStep maxStep d != d

/-- The sum is clamped on this axis (R135). -/
def offsetClamped (limit : Nat) (sum : Int) : Bool := limit < sum.natAbs

/-- Applies a function to each axis of two quantities. -/
def Axes.zipWith (f : Int → Int → Int) (a b : Axes) : Axes := ⟨f a.x b.x, f a.y b.y, f a.z b.z⟩

/-- A test holds on some axis. -/
def Axes.any (f : Int → Bool) (a : Axes) : Bool := f a.x || f a.y || f a.z

/-- The offsets before clamping: each axis moved by its limited step (R134, R135). -/
def State.steppedOffset (s : State) (p : PalletNo) : Axes :=
  (s.pallet p).offset.zipWith (fun o d => o + limitStep s.config.params.maxStep d) s.compensation

/-- A taken VALID header: steps, clamps, ungauged 0, gauged this pass, STEP_LIMITED, and one quarantine claim if an axis was clamped (R134 to R136). -/
def State.applyGaugeResult (p : PalletNo) (s : State) : State :=
  let sums := s.steppedOffset p
  let limit := s.config.params.offsetLimit
  let moved := s.setPallet p
    { s.pallet p with
      offset := ⟨clampOffset limit sums.x, clampOffset limit sums.y, clampOffset limit sums.z⟩
      ungauged := 0
      gauged := true }
  let noted := moved.raiseIf (s.compensation.any (stepLimited s.config.params.maxStep)) .stepLimited
  if sums.any (offsetClamped limit) then noted.quarantineClaim p else noted

/-- The count of a pallet leaving the gauge station, with the claim at UNGAUGED_LIMIT; a gauged pallet is unchanged (R138, 1). -/
def State.countUngauged (p : PalletNo) (s : State) : State :=
  let r := s.pallet p
  if r.gauged then s
  else
    let count := saturate Config.ungaugedMax r.ungauged
    let counted := s.setPallet p { r with ungauged := count }
    if s.config.params.ungaugedLimit ≤ count then counted.quarantineClaim p else counted

/-- A pallet arriving at the gauge station has gauged this pass cleared (R138, 2). -/
def State.clearGauged (p : PalletNo) (s : State) : State :=
  s.setPallet p { s.pallet p with gauged := false }

/-- Applies a change for the pallet, where there is one. -/
def State.forPallet (p : Option PalletNo) (f : PalletNo → State → State) (s : State) : State :=
  match p with
  | some p => f p s
  | none => s

/-- The pallet that stands at the gauge station, if the line has one and its entry holds one. -/
def State.gaugedPallet (s : State) : Option PalletNo :=
  s.gaugeStation.bind fun g => (s.entry g).pallet

/-- The ungauged accounting after the map shift, for the pallet that stood at the gauge station before it and the one that stands there now (R138). -/
def State.ungaugedAccounting (leaving : Option PalletNo) (s : State) : State :=
  (s.forPallet leaving State.countUngauged).forPallet s.gaugedPallet State.clearGauged

end Sys2Proof.Machine
end

