-- ==== Sys2Proof/Machine/Identity.lean ====
section
/-! DEFINITION. The identity checker: reader assignments, alignment attempts, taken tags and the presence check (R109, R112 to R125). -/

namespace Sys2Proof.Machine

/-- The station to which a reader is assigned: the lowest station of the line that names it (R109). -/
def State.readerStation (s : State) (r : ReaderNo) : Option StationNo :=
  s.lineStations.find? fun k => (s.descriptor k).reader == some r

/-- Every reader-station entry that holds a pallet is CONFIRMED: the success check (R121). -/
def State.aligned (s : State) : Bool :=
  allStations.all fun k =>
    !(s.isReaderStation k && (s.entry k).occupied) || (s.entry k).status = .confirmed

/-- Some reader-station entry holds a pallet (R89). -/
def State.needsAlignment (s : State) : Bool :=
  allStations.any fun k => s.isReaderStation k && (s.entry k).occupied

/-- The line enters PRODUCING with the failed and clean counts 0 (R89, R98). -/
def State.enterProduction (s : State) : State :=
  { s with line := { s.line with failed := 0, clean := 0 } } |>.enterLine .producing

/-- Alignment succeeds: the timer stops, the line enters PRODUCING, and ALIGN_CORRECTED is set after a correction (R98, R122). -/
def State.alignSuccess (s : State) : State :=
  s.endAlignment.enterProduction.raiseIf s.identity.corrected .alignCorrected

/-- The success check, with what follows when it passes (R121, R122). A claim is taken in ALIGNING alone (R98). -/
def State.checkAligned (s : State) : State :=
  if s.line.state = .aligning ∧ s.aligned then s.alignSuccess else s

/-- After a failed attempt every reader-station entry that holds a pallet UNCERTAIN becomes PREDICTED (R121, 1). -/
def State.resetUncertain (s : State) : State :=
  { s with tracking :=
    { s.tracking with
      map := Vector.ofFn fun k =>
        let e := s.entry k
        if s.isReaderStation k && e.occupied && e.status = .uncertain then
          { e with status := .predicted }
        else e } }

/-- An attempt starts: the align timer from 0, then the success check (R121, 2 and 3). -/
def State.startAttempt (s : State) : State :=
  { s with identity := { s.identity with timer := .restart } } |>.checkAligned

/-- Alignment is exhausted: aborted, ALIGN_ABORTED, STOPPED (R124). -/
def State.exhaustAlignment (s : State) : State :=
  ({ s with identity := { s.identity with aborted := true } }.raise .alignAborted).enterLine
    .stopped

/-- An attempt fails: the timer stops, one attempt fewer, and the next starts at once or alignment is exhausted (R123). -/
def State.failAttempt (s : State) : State :=
  let remaining := s.identity.remaining - 1
  let ended :=
    { s with identity := { s.identity with timer := s.identity.timer.stop, remaining := remaining } }
  if remaining = 0 then ended.exhaustAlignment else ended.resetUncertain.startAttempt

/-- BEGIN_ALIGN taken: the attempts and indications set anew, then ALIGNING with its first attempt, or PRODUCING where no reader-station entry holds a pallet (R89, R120). -/
def State.beginAlignment (s : State) : State :=
  let fresh :=
    { s with identity :=
      { s.identity with
        remaining := s.config.params.alignAttempts, corrected := false, aborted := false } }
  if s.needsAlignment then (fresh.enterLine .aligning).startAttempt else fresh.enterProduction

/-- The tag record replaced whole (R113). -/
def State.recordTag (reader : ReaderNo) (k : StationNo) (quality : Quality)
    (read : Option PalletNo) (outcome : TagOutcome) (s : State) : State :=
  { s with identity :=
    { s.identity with
      tag := some
        { reader := reader, station := k, quality := quality, palletRead := read,
          entryBefore := (s.entry k).pallet, outcome := outcome, cycle := s.line.cycle } } }

/-- A taken tag of quality NO_READ is recorded, with no other effect (R112). -/
def State.takeNoRead (reader : ReaderNo) (k : StationNo) (s : State) : State :=
  s.recordTag reader k .noRead none .noRead

/-- A good tag that names the entry's pallet confirms it (R114). -/
def State.takeMatch (reader : ReaderNo) (k : StationNo) (p : PalletNo) (s : State) : State :=
  ((s.recordTag reader k .good (some p) .matched).setStatus k .confirmed).checkAligned

/-- A disagreeing good tag without authority marks the entry UNCERTAIN, and fails a running attempt (R115, R123). -/
def State.takeUncertain (reader : ReaderNo) (k : StationNo) (p : PalletNo) (s : State) : State :=
  let marked := (s.recordTag reader k .good (some p) .uncertain).setStatus k .uncertain
  if marked.line.state = .aligning then marked.failAttempt else marked

/-- A disagreeing good tag with authority that names an OUT pallet corrects the entry (R116). -/
def State.takeCorrection (reader : ReaderNo) (k : StationNo) (p : PalletNo) (s : State) : State :=
  let corrected :=
    (s.recordTag reader k .good (some p) .corrected).correctEntry k p (s.gaugeStation == some k)
  if corrected.line.state = .aligning then
    { corrected with identity := { corrected.identity with corrected := true } }.checkAligned
  else corrected

/-- A disagreeing good tag with authority that names a pallet in service trips the line (R117). -/
def State.takeConflict (reader : ReaderNo) (k : StationNo) (p : PalletNo) (s : State) : State :=
  (s.recordTag reader k .good (some p) .conflict).trip .mapConflict

/-- A taken good tag: a match, or a mismatch decided by the authority and by where the pallet stands (R114 to R117). -/
def State.takeGood (reader : ReaderNo) (k : StationNo) (p : PalletNo) (s : State) : State :=
  if (s.entry k).pallet = some p then s.takeMatch reader k p
  else
    let noted := (s.addFault .tagMismatch).raise .tagMismatch
    if !(s.descriptor k).authority then noted.takeUncertain reader k p
    else if (s.pallet p).service = .out then noted.takeCorrection reader k p
    else noted.takeConflict reader k p

/-- The entry and the effective presence of its station disagree (R118). -/
def State.presenceDisagrees (s : State) (k : StationNo) : Bool :=
  s.inLine k && (s.entry k).occupied != s.present k

/-- The status the presence check leaves: UNCERTAIN on disagreement, CONFIRMED for an empty absent station, else as it was (R118). -/
def State.checkedEntry (s : State) (k : StationNo) : MapEntry :=
  let e := s.entry k
  if !s.inLine k then e
  else if s.presenceDisagrees k then { e with status := .uncertain }
  else if e.occupied then e
  else { e with status := .confirmed }

/-- The presence check of an index completion: every entry's claim, and PRESENCE_MISMATCH once, as fault and flag (R118, R119). -/
def State.presenceCheck (s : State) : State :=
  let mismatch := allStations.any s.presenceDisagrees
  let checked :=
    { s with tracking := { s.tracking with map := Vector.ofFn fun k => s.checkedEntry k } }
  (checked.addFaultIf mismatch .presenceMismatch).raiseIf mismatch .presenceMismatch

end Sys2Proof.Machine
end

