-- ==== Sys2Proof/Machine/Cycle.lean ====
section
/-! DEFINITION. The index cycle: the checks of a request, acceptance, completion, cycle evaluation and resolution (02, R102 to R106). -/

namespace Sys2Proof.Machine

/-- A reader-station entry holds a PREDICTED pallet: check 12 of R33. -/
def State.tagPendingAt (s : State) (k : StationNo) : Bool :=
  s.isReaderStation k && (s.entry k).occupied && (s.entry k).status = .predicted

/-- An entry of the line is UNCERTAIN: check 13 of R33. -/
def State.uncertainAt (s : State) (k : StationNo) : Bool :=
  s.inLine k && (s.entry k).status = .uncertain

/-- A station of the line is engaged: check 8 of R33. -/
def State.engagedAt (s : State) (k : StationNo) : Bool :=
  s.inLine k && (s.station k).engagement.isSome

/-- A station of the line is not effectively clear: check 9 of R33. -/
def State.notClearAt (s : State) (k : StationNo) : Bool :=
  s.inLine k && !(s.station k).clear.filtered

/-- The checks of an index request, in R33's order. -/
def State.indexChecks (override : Bool) (s : State) : List (Bool × Cause) :=
  [ (s.lineIn [.producing, .restricted], .notInState),
    (!s.line.stopPending, .stopPending),
    (!s.indexing, .indexInFlight),
    (!s.monitor.held, .held),
    (!s.pins.estop, .estopActive),
    (!s.pins.driveFault, .driveFaulted),
    (s.pins.atRest, .transferNotAtRest),
    (!allStations.any s.engagedAt, .stationEngaged),
    (!allStations.any s.notClearAt, .stationNotClear),
    (s.exitHasRoom, .returnFull),
    (override || s.line.state != .restricted, .overrideRequired),
    (override || !allStations.any s.tagPendingAt, .tagPending),
    (override || !allStations.any s.uncertainAt, .uncertainEntry) ]

/-- Acceptance of an index (R35, R36). -/
def State.acceptIndex (s : State) : State :=
  let faulted :=
    (s.addFaultIf (allStations.any s.tagPendingAt) .tagMissing).addFaultIf
      (allStations.any s.uncertainAt) .uncertainMoved
  { faulted with gate :=
    { faulted.gate with
      state := .indexing, motionSeen := false, timer := .restart, permit := true } }
  |>.refreshEnables

/-- The index gate's part of a completion: the capture and its flag, INDEX_DONE, IDLE (R45, R46). -/
def State.gateCompletion (s : State) : State :=
  let captured :=
    { s with gate :=
      { s.gate.toIdle with capture := s.gate.capture.take s.gate.timer.count } }
  (captured.raiseIf s.gate.capture.valid .captureOverwrite).raise .indexDone

/-- The station monitor's part of a completion: units to 0 and stopped, no engagement (R75). -/
def State.resetUnits (s : State) : State :=
  s.mapStations fun _ st => { st with engagement := none, budget := 0, budgetDue := false }

/-- The failed count after a failed cycle: one more, not past FAIL_LIMIT_HALT (R103, R104). -/
def State.failedNext (s : State) : Nat := min (s.line.failed + 1) s.config.params.failHalt

/-- Evaluation of a cycle that ends in PRODUCING (R103). -/
def State.evaluateProducing (failed : Bool) (s : State) : State :=
  if failed then
    let count := s.failedNext
    let counted := { s with line := { s.line with failed := count } }
    let moved :=
      if s.config.params.failHalt ≤ count then counted.enterLine .stopped
      else if s.config.params.failRestrict ≤ count then
        { counted with line := { counted.line with clean := 0 } }.enterLine .restricted
      else counted
    moved.raise .cycleFailed
  else { s with line := { s.line with failed := 0 } }

/-- Evaluation of a cycle that ends in RESTRICTED (R104). -/
def State.evaluateRestricted (failed : Bool) (s : State) : State :=
  if failed then
    let count := s.failedNext
    let counted := { s with line := { s.line with failed := count, clean := 0 } }
    let moved := if s.config.params.failHalt ≤ count then counted.enterLine .stopped else counted
    moved.raise .cycleFailed
  else if s.line.clean + 1 = s.config.params.recoverCycles then
    { s with line := { s.line with failed := 0, clean := 0 } }.enterLine .producing
  else { s with line := { s.line with failed := 0, clean := s.line.clean + 1 } }

/-- The sets rotated and the cycle number advanced, from 255 to 0 (R102, 4 and 5). -/
def State.rotateCycle (ending : BitVec 8) (s : State) : State :=
  { s with line := { s.line with last := ending, current := 0, cycle := s.line.cycle + 1 } }

/-- STOP_PENDING applied after the evaluation (R106). -/
def State.applyStopPending (s : State) : State :=
  if s.line.stopPending && s.lineIn [.producing, .restricted] then s.enterLine .stopped else s

/-- Cycle evaluation at a completion. An index is in flight only in PRODUCING and RESTRICTED, so no other state is judged (R102; log 23). -/
def State.evaluateCycle (s : State) : State :=
  let ending := s.line.current
  let judged := match s.line.state with
    | .producing => s.evaluateProducing (ending != 0)
    | .restricted => s.evaluateRestricted (ending != 0)
    | .setup | .prepared | .aligning | .stopped | .tripped => s
  (judged.rotateCycle ending).applyStopPending

/-- An index completion, taken whole by six blocks (R45, R48). -/
def State.completeIndex (s : State) : State :=
  let leaving := s.gaugedPallet
  let shifted := s.gateCompletion.mapShift.presenceCheck.ungaugedAccounting leaving
  shifted.resetUnits.evaluateCycle.refreshEnables

/-- RESOLVE_INDEX with outcome COMPLETE: the account as if the index had completed, no presence check and no evaluation (R53, R139). -/
def State.resolveComplete (s : State) : State :=
  let leaving := s.gaugedPallet
  let shifted := s.mapShift.ungaugedAccounting leaving
  { shifted with
    line := { shifted.line with cycle := shifted.line.cycle + 1 }
    gate := { shifted.gate with frozen := false } }

/-- RESOLVE_INDEX with outcome NOT_MOVED (R54). -/
def State.resolveNotMoved (s : State) : State := { s with gate := { s.gate with frozen := false } }

end Sys2Proof.Machine
end

