-- ==== Sys2Proof/Machine/Monitor.lean ====
section
/-! DEFINITION. The station monitor: the checks of a cycle start, engagements, budget units, station completions, filters, HOLD and the entry to SETUP (03), and what a tick boundary does to every counter (R39, R64, R79, R121, R164). -/

namespace Sys2Proof.Machine

/-- The block states a role takes (R60). -/
def Role.takes : Role → Block → Bool
  | .load, .empty => true
  | .load, .inWork => false
  | .load, .reject => false
  | .machine, .inWork => true
  | .machine, .empty => false
  | .machine, .reject => false
  | .gauge, _ => true
  | .unload, .inWork => true
  | .unload, .reject => true
  | .unload, .empty => false

/-- The pallet of the entry has a block state that suits the station's role (R60); of an empty entry nothing is asked. -/
def State.blockSuits (s : State) (k : StationNo) : Bool :=
  match (s.entry k).pallet with
  | some p => (s.descriptor k).role.takes (s.pallet p).block
  | none => true

/-- The variant of the entry's pallet operates at the station; asked at MACHINE stations alone (R60). -/
def State.variantOperates (s : State) (k : StationNo) : Bool :=
  match (s.entry k).pallet with
  | some p =>
    (s.descriptor k).role != .machine ||
      !(s.variantEntry (s.pallet p).variant).passes.getLsbD k.val
  | none => true

/-- The checks of a cycle-start request, in R59's order. -/
def State.startChecks (k : StationNo) (s : State) : List (Bool × Cause) :=
  [ (s.lineIn [.producing, .restricted], .notInState),
    (!s.line.stopPending, .stopPending),
    (!s.indexing, .indexInFlight),
    (!s.monitor.held, .held),
    (!(s.station k).engagement.isSome, .stationEngaged),
    ((s.entry k).occupied, .emptyStation),
    ((s.entry k).status != .uncertain, .uncertainEntry),
    (s.blockSuits k, .blockState),
    (s.variantOperates k, .variantPass) ]

/-- A START forwarded engages its station (R61). -/
def State.engage (k : StationNo) (casting : Bool) (s : State) : State :=
  s.setStation k
    { s.station k with
      engagement := some { casting := casting, acknowledged := false }
      budget := 0, budgetDue := false, warn := false, noAck := false, limit := false }

/-- The engagement is withdrawn, if it still stands: not engaged, the unit at 0 (R62). -/
def State.withdraw (k : StationNo) (s : State) : State :=
  if (s.station k).engagement.isSome then
    s.setStation k { s.station k with engagement := none, budget := 0, budgetDue := false }
  else s

/-- The engagement ends with the unit's count kept (R65, R67, R74). -/
def Station.endEngagement (st : Station) : Station :=
  { st with engagement := none, budgetDue := false }

/-- The block claims of a completion: IN_WORK at the load station with CASTING, EMPTY at the unload station (R69). -/
def State.claimCompletion (k : StationNo) (casting : Bool) (s : State) : State :=
  let loaded := if k.val = 0 ∧ casting then s.claimBlock k .inWork else s
  if k = s.unloadStation then loaded.claimBlock k .empty else loaded

/-- A station completion: the unit stops, the capture is taken, the engagement ends, the block is claimed (R67 to R69). -/
def State.completeStation (k : StationNo) (casting : Bool) (s : State) : State :=
  let st := s.station k
  let ended := s.setStation k
    { st.endEngagement with capture := st.capture.take st.budget }
  (ended.raiseIf st.capture.valid .captureOverwrite).claimCompletion k casting

/-- Effective clear rises: a completion where the station is engaged and acknowledged, else nothing (R67). -/
def State.clearRose (k : StationNo) (s : State) : State :=
  match (s.station k).engagement with
  | some e => if e.acknowledged then s.completeStation k e.casting else s
  | none => s

/-- Effective clear falls during an engagement: acknowledged (R65). -/
def State.acknowledge (k : StationNo) (s : State) : State :=
  match (s.station k).engagement with
  | some e =>
    s.setStation k { s.station k with engagement := some { e with acknowledged := true } }
  | none => s

/-- Effective clear falls: CLEAR_LOST is claimed during an index at a station of the line, and an engagement is acknowledged (R43, R65). A fall taken after a completion finds no index in flight and trips nothing, as R43 says; where R49 has the line trip after a completion taken first, for R43's cause too, following R43 is the model's choice (log 32). -/
def State.clearFell (k : StationNo) (s : State) : State :=
  (if s.indexing && s.inLine k then s.trip .clearLost else s).acknowledge k

/-- What a change of effective clear from one value to another does. -/
def State.clearChanged (k : StationNo) (before after : Bool) (s : State) : State :=
  if before = after then s else if after then s.clearRose k else s.clearFell k

/-- An input line takes a level (R79): no change, a change back that discards the pending level, a change taken at once with FILTER_MS 0, or a new pending level. -/
def InputLine.change (filterMs : Nat) (level : Bool) (l : InputLine) : InputLine :=
  if level = l.level then l
  else if level = l.filtered then { l with level := level, filter := .idle }
  else if filterMs = 0 then { level := level, filtered := level, filter := .idle }
  else { l with level := level, filter := .pending level 0 false }

/-- A pending level whose boundary is due becomes the filtered value (R79). -/
def InputLine.settle (l : InputLine) : InputLine :=
  match l.filter with
  | .pending level _ true => { l with filtered := level, filter := .idle }
  | .pending _ _ false => l
  | .idle => l

/-- A tick boundary for a filter: the held count of a pending level rises, and its settling is due once it reaches FILTER_MS (R79). -/
def InputLine.tick (filterMs : Nat) (l : InputLine) : InputLine :=
  match l.filter with
  | .pending level held _ =>
    { l with filter := .pending level (held + 1) (filterMs ≤ held + 1) }
  | .idle => l

/-- Gives a station's clear line a new state, with what its effective value's change does. -/
def State.updateClear (k : StationNo) (f : InputLine → InputLine) (s : State) : State :=
  let old := (s.station k).clear
  (s.setStation k { s.station k with clear := f old }).clearChanged k old.filtered (f old).filtered

/-- Gives a station's presence line a new state; nothing follows between completions (R119). -/
def State.updatePresence (k : StationNo) (f : InputLine → InputLine) (s : State) : State :=
  s.setStation k { s.station k with presence := f (s.station k).presence }

/-- A pending level of a station input settles, if its boundary is due (R79). -/
def State.settleInput (k : StationNo) (input : FieldInput) (s : State) : State :=
  match input with
  | .clear => s.updateClear k InputLine.settle
  | .presence => s.updatePresence k InputLine.settle

/-- HOLD: HELD set, and every unit stops with its count kept (R72). -/
def State.holdLine (s : State) : State :=
  { s with monitor := { s.monitor with held := true } } |>.stopUnits

/-- RESUME: HELD cleared; units run again by R55's condition (R73). -/
def State.resumeLine (s : State) : State := { s with monitor := { s.monitor with held := false } }

/-- RELEASE_STATION ends the engagement and leaves unit, indication and capture (R74). -/
def State.releaseEngagement (k : StationNo) (s : State) : State :=
  s.setStation k (s.station k).endEngagement

/-- OPEN_SETUP taken: the counts to 0, engagements, units, indications and HELD cleared, the line in SETUP (R78, R87). -/
def State.enterSetup (s : State) : State :=
  let counted := { s with line := { s.line with failed := 0, clean := 0 } }
  let cleared := counted.mapStations fun _ st =>
    { st with
      engagement := none, budget := 0, budgetDue := false, warn := false, noAck := false,
      limit := false }
  { cleared with monitor := { cleared.monitor with held := false } } |>.enterLine .setup

/-- The ACK mark reached: an unacknowledged engagement ends with NO_ACK (R65). -/
def State.reachAck (k : StationNo) (s : State) : State :=
  match (s.station k).engagement with
  | some e =>
    if e.acknowledged then s
    else
      ((s.setStation k { (s.station k).endEngagement with noAck := true }).addFault .noAck).raise
        .noAck
  | none => s

/-- The WARN mark reached (R66). -/
def State.reachWarn (k : StationNo) (s : State) : State :=
  (s.setStation k { s.station k with warn := true }).raise .stationWarn

/-- The LIMIT mark reached: the indication, OVERRUN as fault and flag; the unit stops by R55 (R66). -/
def State.reachLimit (k : StationNo) (s : State) : State :=
  ((s.setStation k { s.station k with limit := true }).addFault .overrun).raise .overrun

/-- The count a unit reaches at its next boundary. -/
def State.unitNext (s : State) (k : StationNo) : Nat := (s.station k).budget + 1

/-- The next boundary brings the unit to one of its marks (R64). -/
def State.unitMarked (s : State) (k : StationNo) : Bool :=
  [(s.descriptor k).ack, (s.descriptor k).warn, (s.descriptor k).limit].contains (s.unitNext k)

/-- A boundary of a unit that is due: the count rises and every mark it reaches applies (R64). A unit that no longer runs reaches no mark (log 3). -/
def State.takeUnitBoundary (k : StationNo) (s : State) : State :=
  if (s.station k).budgetDue && s.unitRuns k && s.unitMarked k then
    let n := s.unitNext k
    let d := s.descriptor k
    let counted := s.setStation k { s.station k with budget := n, budgetDue := false }
    let warned := if n = d.warn then counted.reachWarn k else counted
    let limited := if n = d.limit then warned.reachLimit k else warned
    if n = d.ack then limited.reachAck k else limited
  else s

/-- The index timer's next boundary brings it to one of its marks (R39, R40). -/
def State.indexMarked (s : State) : Bool :=
  [s.config.params.indexSlow, s.config.params.indexLimit].contains (s.gate.timer.count + 1)

/-- The index timer's boundary that is due: the count rises; INDEX_SLOW sets SLOW_INDEX, INDEX_LIMIT claims the trip (R39, R40). A boundary taken after a completion finds the timer stopped and trips nothing, as R40 says; where R49 has the line trip after a completion taken first, for R40's cause too, following R40 is the model's choice (log 32). -/
def State.takeIndexBoundary (s : State) : State :=
  if s.gate.timer.running && s.gate.timer.due && s.indexMarked then
    let n := s.gate.timer.count + 1
    let counted := { s with gate := { s.gate with timer := ⟨n, true, false⟩ } }
    let slowed := counted.raiseIf (n = s.config.params.indexSlow) .slowIndex
    if n = s.config.params.indexLimit then slowed.trip .indexTimeout else slowed
  else s

/-- The align timer's boundary that is due: the attempt fails at ALIGN_WINDOW (R123). -/
def State.takeAlignBoundary (s : State) : State :=
  if s.identity.timer.running && s.identity.timer.due then
    { s with identity :=
      { s.identity with timer := ⟨s.identity.timer.count + 1, true, false⟩ } }.failAttempt
  else s

/-- A running timer at a tick boundary: it counts, or its boundary falls due where it would reach a mark (log 3). -/
def MarkTimer.tick (marks : List Nat) (t : MarkTimer) : MarkTimer :=
  if !t.running then t
  else if marks.contains (t.count + 1) then { t with due := true }
  else { t with count := t.count + 1 }

/-- A tick boundary for one station: the unit if it runs, and both filters (R64, R79). -/
def State.tickStation (s : State) (k : StationNo) (st : Station) : Station :=
  let filtered :=
    { st with
      clear := st.clear.tick s.config.params.filterMs
      presence := st.presence.tick s.config.params.filterMs }
  if !s.unitRuns k then filtered
  else if s.unitMarked k then { filtered with budgetDue := true }
  else { filtered with budget := st.budget + 1 }

/-- The image-response timer counts boundaries up to the limit (R157, R164). -/
def ResponseTimer.tick (t : ResponseTimer) : ResponseTimer :=
  if t.running && t.count < Config.responseLimit then { t with count := t.count + 1 } else t

/-- One tick boundary for every counter of the part (00, R39, R64, R79, R121, R164). -/
def State.advance (s : State) : State :=
  { s with
    gate :=
      { s.gate with
        timer := s.gate.timer.tick [s.config.params.indexSlow, s.config.params.indexLimit] }
    monitor :=
      { s.monitor with stations := Vector.ofFn fun k => s.tickStation k (s.station k) }
    identity :=
      { s.identity with timer := s.identity.timer.tick [s.config.params.alignWindow] }
    classifier := { s.classifier with timer := s.classifier.timer.tick } }

end Sys2Proof.Machine
end

