-- ==== Sys2Proof/Machine/Operands.lean ====
section
/-! DEFINITION. The operands of host transactions: byte lanes, and the fields of every word the part takes in, read and written (11, Words taken in; R173). -/

namespace Sys2Proof.Machine

end Sys2Proof.Machine

namespace Sys2Proof

/-- The bytes of an access. -/
def Size.bytes : Size → Nat
  | .one => 1
  | .two => 2
  | .four => 4

/-- The data bits an access carries, at the low end of a word. -/
def Size.mask : Size → Word
  | .one => 0xFF
  | .two => 0xFFFF
  | .four => 0xFFFFFFFF

end Sys2Proof

namespace Sys2Proof.Machine

/-- A host transaction inside the line image, as it arrives (R159). -/
structure Request where
  kind : Kind
  offset : Offset
  size : Size
  data : Word
  deriving DecidableEq, Repr

/-- The field of n bits from bit lo. -/
def bits (w : Word) (lo n : Nat) : Nat := w.toNat / 2 ^ lo % 2 ^ n

/-- The bit position of an access's first byte within its word; multi-byte quantities are little-endian (00). -/
def laneShift (offset : Offset) : Nat := 8 * (offset.toNat % 4)

/-- The bits of a word that an access covers. -/
def laneMask (offset : Offset) (size : Size) : Word := size.mask <<< laneShift offset

/-- The written bits in their places in the word; positions not written are 0 (R160). -/
def laneData (offset : Offset) (size : Size) (data : Word) : Word :=
  (data &&& size.mask) <<< laneShift offset

/-- A word with the written bytes replaced; bytes not written keep their value (R160, R172, R188). -/
def mergeLanes (old : Word) (offset : Offset) (size : Size) (data : Word) : Word :=
  (old &&& ~~~laneMask offset size) ||| laneData offset size data

/-- The bytes an access reads from a word, at the low end (R169). -/
def readLanes (word : Word) (offset : Offset) (size : Size) : Word :=
  (word >>> laneShift offset) &&& size.mask

/-- The offset of the word that holds an offset. -/
def wordOffset (offset : Offset) : Offset := BitVec.ofNat 16 (offset.toNat / 4 * 4)

/-- A gate command with its arguments (R173). -/
inductive GateCommand where
  | openSetup | closeSetup | beginAlign | stop | trip
  | insert (pallet : PalletNo) (variant : Fin 8) (dest : Destination)
  | remove (pallet : PalletNo)
  | setVariant (pallet : PalletNo) (variant : Fin 8)
  | quarantine (pallet : PalletNo)
  | release (pallet : PalletNo)
  | rejectBlock (pallet : PalletNo)
  | confirm (station : Fin 32)
  | resolveIndex (outcome : Fin 4)
  | hold | resume
  | releaseStation (station : Fin 32)
  deriving DecidableEq, Repr

/-- The fields of the gate command word (11, Words taken in). -/
structure GateFields where
  code : Nat
  pallet : Nat
  station : Nat
  dest : Nat
  variant : Nat
  outcome : Nat
  deriving DecidableEq, Repr

/-- No field but the code. -/
def GateFields.ofCode (code : Nat) : GateFields := ⟨code, 0, 0, 0, 0, 0⟩

/-- The gate command word with the given fields and every other bit 0. -/
def GateFields.word (f : GateFields) : Word :=
  BitVec.ofNat 32
    (f.code + f.pallet * 2 ^ 8 + f.station * 2 ^ 16 + f.dest * 2 ^ 21 + f.variant * 2 ^ 24 +
      f.outcome * 2 ^ 28)

/-- The fields a word carries. -/
def gateFields (w : Word) : GateFields :=
  { code := bits w 0 5, pallet := bits w 8 6, station := bits w 16 5, dest := bits w 21 1,
    variant := bits w 24 3, outcome := bits w 28 2 }

/-- Every bit of the gate command word that carries no field is zero (R173, 3). -/
def gateSpareZero (w : Word) : Bool :=
  bits w 5 3 = 0 && bits w 14 2 = 0 && bits w 22 2 = 0 && bits w 27 1 = 0 && bits w 30 2 = 0

/-- The fields the host writes for a command; the fields it does not use are zero (R173; 11). -/
def GateCommand.fields : GateCommand → GateFields
  | .openSetup => .ofCode 1
  | .closeSetup => .ofCode 2
  | .beginAlign => .ofCode 3
  | .stop => .ofCode 4
  | .trip => .ofCode 5
  | .insert p v .queue => { GateFields.ofCode 8 with pallet := p.val, variant := v.val }
  | .insert p v (.station k) =>
    { GateFields.ofCode 8 with pallet := p.val, variant := v.val, station := k.val, dest := 1 }
  | .remove p => { GateFields.ofCode 9 with pallet := p.val }
  | .setVariant p v => { GateFields.ofCode 10 with pallet := p.val, variant := v.val }
  | .quarantine p => { GateFields.ofCode 11 with pallet := p.val }
  | .release p => { GateFields.ofCode 12 with pallet := p.val }
  | .rejectBlock p => { GateFields.ofCode 13 with pallet := p.val }
  | .confirm k => { GateFields.ofCode 14 with station := k.val }
  | .resolveIndex o => { GateFields.ofCode 16 with outcome := o.val }
  | .hold => .ofCode 20
  | .resume => .ofCode 21
  | .releaseStation k => { GateFields.ofCode 22 with station := k.val }

/-- The command a code names, with its arguments taken from the fields (11, the command table). -/
def GateFields.command (f : GateFields) : Option GateCommand :=
  let p : PalletNo := Fin.ofNat 64 f.pallet
  let v : Fin 8 := Fin.ofNat 8 f.variant
  let k : Fin 32 := Fin.ofNat 32 f.station
  match f.code with
  | 1 => some .openSetup
  | 2 => some .closeSetup
  | 3 => some .beginAlign
  | 4 => some .stop
  | 5 => some .trip
  | 8 => some (.insert p v (if f.dest = 0 then .queue else .station k))
  | 9 => some (.remove p)
  | 10 => some (.setVariant p v)
  | 11 => some (.quarantine p)
  | 12 => some (.release p)
  | 13 => some (.rejectBlock p)
  | 14 => some (.confirm k)
  | 16 => some (.resolveIndex (Fin.ofNat 4 f.outcome))
  | 20 => some .hold
  | 21 => some .resume
  | 22 => some (.releaseStation k)
  | _ => none

/-- The command of a gate command word: UNKNOWN_COMMAND for a code that names none, MALFORMED where a field the command does not use or a bit that carries no field is not zero (R173, 2 and 3). -/
def readGateCommand (w : Word) : Except Cause GateCommand :=
  let f := gateFields w
  match f.command with
  | none => .error .unknownCommand
  | some c => if gateSpareZero w && c.fields = f then .ok c else .error .malformed

/-- The transfer command word: its code names INDEX, and OVERRIDE; none where it is malformed (R32). -/
def readTransfer (w : Word) : Option (Bool × Bool) :=
  if bits w 0 4 ≤ 1 && bits w 4 4 = 0 && bits w 9 23 = 0 then
    some (bits w 0 4 = 1, bits w 8 1 = 1)
  else none

/-- The transfer command word or a cycle-start word as the host writes it: the code, and OVERRIDE or CASTING at bit 8 (11). -/
def codeWord (request option : Bool) : Word :=
  BitVec.ofNat 32 (request.toNat + option.toNat * 2 ^ 8)

/-- A cycle-start word: its code names START, and CASTING; none where it is malformed (R58, 2 and 3). -/
def readCycleStart (w : Word) : Option (Bool × Bool) :=
  if bits w 0 4 ≤ 1 && bits w 4 4 = 0 && bits w 9 23 = 0 then
    some (bits w 0 4 = 1, bits w 8 1 = 1)
  else none

/-- The fields of the tag word (05, The tag word; 11). -/
structure TagWord where
  reader : ReaderNo
  quality : Nat
  pallet : PalletNo
  complement : Fin 64
  deriving DecidableEq, Repr

/-- The fields a tag word carries. -/
def readTag (w : Word) : TagWord :=
  { reader := Fin.ofNat 4 (bits w 0 2), quality := bits w 4 2,
    pallet := Fin.ofNat 64 (bits w 8 6), complement := Fin.ofNat 64 (bits w 16 6) }

/-- The reserved bits of the tag word are zero (R110, 2). -/
def tagSpareZero (w : Word) : Bool :=
  bits w 2 2 = 0 && bits w 6 2 = 0 && bits w 14 2 = 0 && bits w 22 10 = 0

/-- The tag word as the host writes it: quality 0 GOOD, 1 NO_READ (11). -/
def tagWord (reader : ReaderNo) (quality : Nat) (pallet complement : Fin 64) : Word :=
  BitVec.ofNat 32
    (reader.val + quality * 2 ^ 4 + pallet.val * 2 ^ 8 + complement.val * 2 ^ 16)

/-- The quality is GOOD and the complement is 63 less the pallet (R110, 5). -/
def TagWord.goodMatched (t : TagWord) : Bool :=
  t.quality = 0 && t.complement.val = 63 - t.pallet.val

/-- The fields of the gauge header word: the pallet and the status (06, The gauge header word). -/
structure GaugeHeader where
  pallet : PalletNo
  status : Nat
  deriving DecidableEq, Repr

/-- The fields a gauge header word carries. -/
def readHeader (w : Word) : GaugeHeader :=
  { pallet := Fin.ofNat 64 (bits w 0 6), status := bits w 8 2 }

/-- The reserved bits of the gauge header word are zero (R131, 2). -/
def headerSpareZero (w : Word) : Bool := bits w 6 2 = 0 && bits w 10 22 = 0

/-- The gauge header word as the host writes it: status 0 VALID, 1 PROBE_FAIL (11). -/
def headerWord (pallet : PalletNo) (status : Nat) : Word :=
  BitVec.ofNat 32 (pallet.val + status * 2 ^ 8)

/-- A word packed from fields: for each the first bit, the width and the value (11). -/
def pack : List (Nat × Nat × Nat) → Word
  | [] => 0
  | (lo, width, value) :: rest => BitVec.ofNat 32 (value % 2 ^ width * 2 ^ lo) ||| pack rest

end Sys2Proof.Machine
end

