-- ==== Sys2Proof/Machine/Patch.lean ====
section
/-! DEFINITION. The patch unit: which rule names a write, the arithmetic, and the rewritten data (07). -/

namespace Sys2Proof.Machine

/-- The bytes of a field's width (R143). -/
def Width.bytes : Width → Nat
  | .byte => 1
  | .half => 2
  | .word => 4

/-- The bits of a field's width (R143). -/
def Width.bits : Width → Nat
  | .byte => 8
  | .half => 16
  | .word => 32

/-- The rule names the word of the station's window (R148). -/
def PatchRule.names (r : PatchRule) (k : StationNo) (word : Nat) : Bool :=
  r.enabled && r.station = k && r.word.val = word

/-- The enabled rule that names a station and word; R146 keeps it the only one (log 26). -/
def State.ruleFor (s : State) (k : StationNo) (word : Nat) : Option PatchRule :=
  s.patch.toList.find? fun r => r.names k word

/-- The field's value in the written data, read by the rule's signedness (R150, 1). -/
def PatchRule.value (r : PatchRule) (data : Word) : Int :=
  let n : Int := (data.toNat % 2 ^ r.width.bits : Nat)
  if r.signed then Int.bmod n (2 ^ r.width.bits) else n

/-- The exact result for a pallet with the given offsets and feed ratio (R144, R150). -/
def PatchOp.result (op : PatchOp) (value : Int) (offset : Axes) (ratio : Nat) : Int :=
  match op with
  | .addX => value + offset.x
  | .addY => value + offset.y
  | .addZ => value + offset.z
  | .subX => value - offset.x
  | .subY => value - offset.y
  | .subZ => value - offset.z
  | .scale => Int.tdiv (value * ratio) 100

/-- The result of a patched write for pallet p (R150). -/
def State.patchResult (s : State) (r : PatchRule) (p : PalletNo) (data : Word) : Int :=
  r.op.result (r.value data) (s.pallet p).offset (s.variantEntry (s.pallet p).variant).ratio

/-- The result lies in the range of the rule's width and signedness (R143, R151). -/
def PatchRule.fits (r : PatchRule) (result : Int) : Bool :=
  if r.signed then
    -(2 ^ (r.width.bits - 1) : Int) ≤ result && result < (2 ^ (r.width.bits - 1) : Int)
  else 0 ≤ result && result < (2 ^ r.width.bits : Int)

/-- The result reduced into the field's range by a whole multiple of 2 to the width; a result within the range is itself (R153). -/
def PatchRule.reduce (r : PatchRule) (result : Int) : Int :=
  if r.signed then Int.bmod result (2 ^ r.width.bits) else result % 2 ^ r.width.bits

/-- The data forwarded: the field's bits and, above the field, its extension, over the bytes of the write (R152, R153). -/
def PatchRule.rewrite (r : PatchRule) (result : Int) (size : Size) : Word :=
  BitVec.ofInt 32 (r.reduce result) &&& size.mask

/-- The write covers the whole field: it begins at the word's address and is at least as wide (R149, check 2). -/
def PatchRule.covered (r : PatchRule) (offset : Offset) (size : Size) : Bool :=
  offset.toNat % 4 = 0 && r.width.bytes ≤ size.bytes

/-- The checks 1 to 4 of a patched write, in R149's order. -/
def State.patchChecks (r : PatchRule) (k : StationNo) (offset : Offset) (size : Size)
    (s : State) : List (Bool × Cause) :=
  [ (!s.indexing, .indexInFlight),
    (r.covered offset size, .partialPatch),
    ((s.entry k).occupied, .emptyStation),
    ((s.entry k).status != .uncertain, .uncertainEntry) ]

end Sys2Proof.Machine
end

