-- ==== Sys2Proof/Machine/ConfigStore.lean ====
section
/-! DEFINITION. The configuration store and the rule table as the host writes and reads them: the bytes of each block, the entry as a write forms it, its checks, what taking it does, and the cross-checks of CLOSE_SETUP (R146, R177 to R185; 11, Configuration blocks). -/

namespace Sys2Proof.Machine

/-- Byte i of a number, the least significant first (00, Byte order). -/
def byteOf (n i : Nat) : Nat := n / 2 ^ (8 * i) % 256

/-- The number that the bytes from `first` hold, little-endian. -/
def leRead (b : Nat → Nat) (first : Nat) : Nat → Nat
  | 0 => 0
  | len + 1 => leRead b first len + b (first + len) * 2 ^ (8 * len)

/-- The bytes of an entry after a write: the written bytes replace those they cover (R146, R180). -/
def formBytes (old : Nat → Nat) (first : Nat) (size : Size) (data : Word) (i : Nat) : Nat :=
  if first ≤ i ∧ i < first + size.bytes then byteOf data.toNat (i - first) else old i

/-- One field of a block: its first byte, its length, and the values it takes. -/
structure FieldSpec where
  first : Nat
  len : Nat
  takes : Nat → Bool

/-- The number lies in a range. -/
def inRange (lo hi n : Nat) : Bool := lo ≤ n && n ≤ hi

/-- The field and the written bytes share a byte. -/
def FieldSpec.touched (f : FieldSpec) (first len : Nat) : Bool :=
  first < f.first + f.len && f.first < first + len

/-- Checks 2 and 3 of R180: every field the write touches holds one of its values in the entry as formed, and every written byte that carries no field is zero. -/
def entryTakes (fields : List FieldSpec) (formed : Nat → Nat) (first len : Nat) : Bool :=
  (fields.all fun f => !f.touched first len || f.takes (leRead formed f.first f.len)) &&
    (List.range len).all fun i =>
      fields.any (fun f => f.touched (first + i) 1) || formed (first + i) = 0

/-- The line parameter block's fields and ranges (R177; 11). -/
def paramFields : List FieldSpec :=
  [ ⟨0x00, 1, inRange 3 28⟩, ⟨0x01, 1, inRange 1 36⟩, ⟨0x02, 1, inRange 1 6⟩,
    ⟨0x03, 1, inRange 0 15⟩, ⟨0x04, 2, inRange 1 65535⟩, ⟨0x06, 2, inRange 1 65535⟩,
    ⟨0x08, 1, inRange 1 15⟩, ⟨0x09, 1, inRange 1 15⟩, ⟨0x0A, 1, inRange 1 31⟩,
    ⟨0x0B, 1, inRange 1 31⟩, ⟨0x0C, 2, inRange 1 65535⟩, ⟨0x0E, 1, inRange 1 15⟩,
    ⟨0x10, 2, inRange 1 2000⟩, ⟨0x14, 4, inRange 1 50000⟩ ]

/-- The bytes of the line parameter block (11). -/
def LineParams.byte (p : LineParams) (i : Nat) : Nat :=
  match i with
  | 0x00 => p.stationCount.val
  | 0x01 => byteOf p.returnCap 0
  | 0x02 => p.variantCount.val
  | 0x03 => byteOf p.filterMs 0
  | 0x04 => byteOf p.indexSlow 0
  | 0x05 => byteOf p.indexSlow 1
  | 0x06 => byteOf p.indexLimit 0
  | 0x07 => byteOf p.indexLimit 1
  | 0x08 => byteOf p.failRestrict 0
  | 0x09 => byteOf p.failHalt 0
  | 0x0A => byteOf p.recoverCycles 0
  | 0x0B => byteOf p.alignAttempts 0
  | 0x0C => byteOf p.alignWindow 0
  | 0x0D => byteOf p.alignWindow 1
  | 0x0E => byteOf p.ungaugedLimit 0
  | 0x10 => byteOf p.maxStep 0
  | 0x11 => byteOf p.maxStep 1
  | 0x14 => byteOf p.offsetLimit 0
  | 0x15 => byteOf p.offsetLimit 1
  | 0x16 => byteOf p.offsetLimit 2
  | 0x17 => byteOf p.offsetLimit 3
  | _ => 0

/-- The line parameters that a block's bytes hold (11). -/
def LineParams.ofBytes (b : Nat → Nat) : LineParams :=
  { stationCount := Fin.ofNat 29 (b 0x00), returnCap := b 0x01
    variantCount := Fin.ofNat 7 (b 0x02), filterMs := b 0x03
    indexSlow := leRead b 0x04 2, indexLimit := leRead b 0x06 2
    failRestrict := b 0x08, failHalt := b 0x09, recoverCycles := b 0x0A, alignAttempts := b 0x0B
    alignWindow := leRead b 0x0C 2, ungaugedLimit := b 0x0E
    maxStep := leRead b 0x10 2, offsetLimit := leRead b 0x14 4 }

/-- The line parameters as a write at a block offset forms them. -/
def State.formedParams (s : State) (first : Nat) (size : Size) (data : Word) : LineParams :=
  .ofBytes (formBytes s.config.params.byte first size data)

/-- No position numbered c or above holds a pallet (R181). -/
def State.freeFrom (s : State) (c : Nat) : Bool :=
  allStations.all fun k => k.val < c || !(s.entry k).occupied

/-- Every pallet in service has a variant below c (R4, R182). -/
def State.variantsBelow (s : State) (c : Nat) : Bool :=
  s.tracking.pallets.toList.all fun (r : Pallet) => r.service == .out || r.variant.val < c

/-- No offset of any pallet, whatever its service state, passes a limit (R135, R182). -/
def State.offsetsWithin (s : State) (limit : Nat) : Bool :=
  s.tracking.pallets.toList.all fun (r : Pallet) => !r.offset.any (offsetClamped limit)

/-- The law checks of the parameters a write touches: STATION_COUNT, RETURN_CAP, VARIANT_COUNT and OFFSET_LIMIT (R181, R182). -/
def State.lawTakes (s : State) (p : LineParams) (first len : Nat) : Bool :=
  let touched (at0 n : Nat) : Bool := FieldSpec.touched ⟨at0, n, fun _ => true⟩ first len
  (!touched 0x00 1 || s.freeFrom p.stationCount.val) &&
    (!touched 0x01 1 || s.tracking.queue.length ≤ p.returnCap) &&
    (!touched 0x02 1 || s.variantsBelow p.variantCount.val) &&
    (!touched 0x14 4 || s.offsetsWithin p.offsetLimit)

/-- Checks 2 to 4 of a line parameter write (R180). -/
def State.paramsTake (s : State) (first : Nat) (size : Size) (data : Word) : Bool :=
  entryTakes paramFields (formBytes s.config.params.byte first size data) first size.bytes &&
    s.lawTakes (s.formedParams first size data) first size.bytes

/-- New line parameters taken: positions leaving or joining the map become none CONFIRMED (R8, R181), an OUT pallet's variant not below VARIANT_COUNT becomes 0 (R182), the remaining attempts do not exceed ALIGN_ATTEMPTS (R183). -/
def State.takeParams (p : LineParams) (s : State) : State :=
  let kept := min s.config.params.stationCount.val p.stationCount.val
  { s with
    config := { s.config with params := p }
    tracking :=
      { s.tracking with
        map := Vector.ofFn fun k => if k.val < kept then s.entry k else .vacant
        pallets := Vector.ofFn fun q =>
          let r := s.pallet q
          if r.service = Service.out ∧ p.variantCount.val ≤ r.variant.val then { r with variant := 0 }
          else r }
    identity := { s.identity with remaining := min s.identity.remaining p.alignAttempts } }
  |>.refreshEnables

/-- The code of a role (11). -/
def Role.code : Role → Nat
  | .load => 0
  | .machine => 1
  | .gauge => 2
  | .unload => 3

/-- The role of a code. -/
def Role.ofCode : Nat → Role
  | 0 => .load
  | 1 => .machine
  | 2 => .gauge
  | _ => .unload

/-- The code of a presence mode (11). -/
def PresenceMode.code : PresenceMode → Nat
  | .auto => 0
  | .forcePresent => 1
  | .forceAbsent => 2

/-- The presence mode of a code. -/
def PresenceMode.ofCode : Nat → PresenceMode
  | 0 => .auto
  | 1 => .forcePresent
  | _ => .forceAbsent

/-- The fields of a station descriptor and their values (R178; 11). -/
def descriptorFields : List FieldSpec :=
  [ ⟨0x00, 1, inRange 0 3⟩, ⟨0x01, 1, fun n => n < 4 || n = 0xFF⟩, ⟨0x02, 1, inRange 0 1⟩,
    ⟨0x03, 1, inRange 0 2⟩, ⟨0x04, 2, inRange 1 65535⟩, ⟨0x06, 2, inRange 1 65535⟩,
    ⟨0x08, 2, inRange 1 65535⟩ ]

/-- The bytes of a station descriptor (11). -/
def Descriptor.byte (d : Descriptor) (i : Nat) : Nat :=
  match i with
  | 0x00 => d.role.code
  | 0x01 => match d.reader with
    | some r => r.val
    | none => 0xFF
  | 0x02 => d.authority.toNat
  | 0x03 => d.mode.code
  | 0x04 => byteOf d.ack 0
  | 0x05 => byteOf d.ack 1
  | 0x06 => byteOf d.warn 0
  | 0x07 => byteOf d.warn 1
  | 0x08 => byteOf d.limit 0
  | 0x09 => byteOf d.limit 1
  | _ => 0

/-- The station descriptor that an entry's bytes hold (11). -/
def Descriptor.ofBytes (b : Nat → Nat) : Descriptor :=
  { role := .ofCode (b 0x00), reader := if b 0x01 < 4 then some (Fin.ofNat 4 (b 0x01)) else none
    authority := b 0x02 = 1, mode := .ofCode (b 0x03)
    ack := leRead b 0x04 2, warn := leRead b 0x06 2, limit := leRead b 0x08 2 }

/-- The descriptor as a write at an entry offset forms it. -/
def State.formedDescriptor (s : State) (k : StationNo) (first : Nat) (size : Size) (data : Word) :
    Descriptor :=
  .ofBytes (formBytes (s.descriptor k).byte first size data)

/-- Checks 2 and 3 of a station descriptor write (R180). -/
def State.descriptorTakes (s : State) (k : StationNo) (first : Nat) (size : Size) (data : Word) :
    Bool :=
  entryTakes descriptorFields (formBytes (s.descriptor k).byte first size data) first size.bytes

/-- A descriptor taken (R183). -/
def State.takeDescriptor (k : StationNo) (d : Descriptor) (s : State) : State :=
  { s with config := { s.config with descriptors := s.config.descriptors.set k.val d } }

/-- The fields of a variant table entry; bits 28 to 31 of the operate map are reserved (R179; 11). -/
def variantFields : List FieldSpec :=
  [ ⟨0x00, 2, fun _ => true⟩, ⟨0x02, 1, inRange 1 250⟩, ⟨0x04, 4, fun n => n < 2 ^ 28⟩ ]

/-- The bytes of a variant table entry (11). -/
def VariantEntry.byte (v : VariantEntry) (i : Nat) : Nat :=
  match i with
  | 0x00 => byteOf v.code 0
  | 0x01 => byteOf v.code 1
  | 0x02 => byteOf v.ratio 0
  | 0x04 => byteOf v.passes.toNat 0
  | 0x05 => byteOf v.passes.toNat 1
  | 0x06 => byteOf v.passes.toNat 2
  | 0x07 => byteOf v.passes.toNat 3
  | _ => 0

/-- The variant table entry that an entry's bytes hold (11). -/
def VariantEntry.ofBytes (b : Nat → Nat) : VariantEntry :=
  { code := leRead b 0x00 2, ratio := b 0x02, passes := BitVec.ofNat 28 (leRead b 0x04 4) }

/-- The variant entry as a write at an entry offset forms it. -/
def State.formedVariant (s : State) (v : Fin 6) (first : Nat) (size : Size) (data : Word) :
    VariantEntry :=
  .ofBytes (formBytes (s.variantEntry v).byte first size data)

/-- Checks 2 and 3 of a variant table write (R180). -/
def State.variantTakes (s : State) (v : Fin 6) (first : Nat) (size : Size) (data : Word) : Bool :=
  entryTakes variantFields (formBytes (s.variantEntry v).byte first size data) first size.bytes

/-- A variant entry taken. -/
def State.takeVariant (v : Fin 6) (e : VariantEntry) (s : State) : State :=
  { s with config := { s.config with variants := s.config.variants.set v.val e } }

/-- The code of a width (11). -/
def Width.code : Width → Nat
  | .byte => 0
  | .half => 1
  | .word => 2

/-- The width of a code. -/
def Width.ofCode : Nat → Width
  | 0 => .byte
  | 1 => .half
  | _ => .word

/-- The code of a patch operation (11). -/
def PatchOp.code : PatchOp → Nat
  | .addX => 0
  | .addY => 1
  | .addZ => 2
  | .subX => 3
  | .subY => 4
  | .subZ => 5
  | .scale => 6

/-- The patch operation of a code. -/
def PatchOp.ofCode : Nat → PatchOp
  | 0 => .addX
  | 1 => .addY
  | 2 => .addZ
  | 3 => .subX
  | 4 => .subY
  | 5 => .subZ
  | _ => .scale

/-- The fields of a patch rule entry; bits 3 to 7 of byte 0 are reserved (R142; 11). -/
def ruleFields : List FieldSpec :=
  [ ⟨0, 1, fun n => n < 8⟩, ⟨1, 1, inRange 0 27⟩, ⟨2, 1, inRange 1 63⟩, ⟨3, 1, inRange 0 2⟩,
    ⟨4, 1, inRange 0 6⟩ ]

/-- The bytes of a patch rule entry (11). -/
def PatchRule.byte (r : PatchRule) (i : Nat) : Nat :=
  match i with
  | 0 => r.enabled.toNat + 2 * r.trap.toNat + 4 * (!r.signed).toNat
  | 1 => r.station.val
  | 2 => r.word.val
  | 3 => r.width.code
  | 4 => r.op.code
  | _ => 0

/-- The patch rule that an entry's bytes hold (11). -/
def PatchRule.ofBytes (b : Nat → Nat) : PatchRule :=
  { enabled := b 0 % 2 = 1, trap := b 0 / 2 % 2 = 1, signed := b 0 / 4 % 2 = 0
    station := Fin.ofNat 28 (b 1), word := Fin.ofNat 64 (b 2), width := .ofCode (b 3)
    op := .ofCode (b 4) }

/-- Patch rule r as the patch unit holds it. -/
def State.rule (s : State) (r : Fin 24) : PatchRule := s.patch[r.val]

/-- The rule as a write at an entry offset forms it (R146). -/
def State.formedRule (s : State) (r : Fin 24) (first : Nat) (size : Size) (data : Word) :
    PatchRule :=
  .ofBytes (formBytes (s.rule r).byte first size data)

/-- No other enabled rule names the formed rule's station and word, if it is enabled (R146, 3). -/
def State.ruleUnique (s : State) (r : Fin 24) (f : PatchRule) : Bool :=
  !f.enabled ||
    (List.finRange 24).all fun i => i = r || !(s.rule i).names f.station f.word.val

/-- The checks 1 to 3 of a rule write, over the whole rule as formed (R146). -/
def State.ruleTakes (s : State) (r : Fin 24) (first : Nat) (size : Size) (data : Word) : Bool :=
  entryTakes ruleFields (formBytes (s.rule r).byte first size data) 0 8 &&
    s.ruleUnique r (s.formedRule r first size data)

/-- A rule taken (R146). -/
def State.takeRule (r : Fin 24) (f : PatchRule) (s : State) : State :=
  { s with patch := s.patch.set r.val f }

/-- A station below k satisfies the test. -/
def anyBelow (k : StationNo) (test : StationNo → Bool) : Bool :=
  allStations.any fun j => j.val < k.val && test j

/-- The station of the line fails one of the cross-checks 1 to 8 (R184). -/
def State.stationFails (s : State) (k : StationNo) : Bool :=
  let d := s.descriptor k
  (k.val = 0 && d.role != .load) ||
    (k.val != 0 && d.role = .load) ||
    (k.val + 1 = s.stationCount && d.role != .unload) ||
    (k.val + 1 != s.stationCount && d.role = .unload) ||
    (d.role = .gauge && anyBelow k fun j => (s.descriptor j).role = .gauge) ||
    (k.val = 0 && d.reader != some 0) ||
    (d.reader.isSome && anyBelow k fun j => (s.descriptor j).reader = d.reader) ||
    !(d.ack < d.limit && d.warn ≤ d.limit)

/-- An enabled rule names the station (R147). -/
def State.ruledStation (s : State) (k : StationNo) : Bool :=
  s.patch.toList.any fun r => r.enabled && r.station = k

/-- The position fails a cross-check: 1 to 8 for a station of the line, 11 for a position beyond it (R184). -/
def State.positionFails (s : State) (k : StationNo) : Bool :=
  if s.inLine k then s.stationFails k else s.ruledStation k

/-- The line checks 9 and 10 pass (R184). -/
def State.lineChecksPass (s : State) : Bool :=
  s.config.params.indexSlow < s.config.params.indexLimit &&
    s.config.params.failRestrict ≤ s.config.params.failHalt

/-- The lowest-numbered station that fails a cross-check (R185). -/
def State.failingStation (s : State) : Option StationNo := allStations.find? s.positionFails

/-- Every cross-check passes (R184). -/
def State.crossChecksPass (s : State) : Bool :=
  s.failingStation.isNone && s.lineChecksPass

end Sys2Proof.Machine
end

