-- ==== Sys2Proof/Machine/Commands.lean ====
section
/-! DEFINITION. The gate commands: for each its owner's checks, the place its refusal names, and its effect at the OK response (R14 to R22, R52, R72 to R74, R86 to R92). -/

namespace Sys2Proof.Machine

/-- The place a refusal names: a station and a pallet, each or none (R190). -/
structure Place where
  station : Option (Fin 32)
  pallet : Option PalletNo
  deriving DecidableEq, Repr

/-- Station none and pallet none. -/
def Place.none : Place := ⟨Option.none, Option.none⟩

/-- A station position as the report's station field. -/
def StationNo.wide (k : StationNo) : Fin 32 := ⟨k.val, by omega⟩

/-- A station and the pallet of its entry, or none. -/
def State.placeAt (s : State) (k : StationNo) : Place :=
  ⟨some (StationNo.wide k), (s.entry k).pallet⟩

/-- The position that a 5-bit station argument names, if it is 0 to 27. -/
def positionOf (k : Fin 32) : Option StationNo :=
  if h : k.val < 28 then some ⟨k.val, h⟩ else none

/-- The station a 5-bit argument names, if it is below STATION_COUNT. -/
def State.lineStation (s : State) (k : Fin 32) : Option StationNo :=
  (positionOf k).filter s.inLine

/-- The variant a 3-bit argument names, if it is below VARIANT_COUNT (R4). -/
def State.lineVariant (s : State) (v : Fin 8) : Option (Fin 6) :=
  if h : v.val < s.config.params.variantCount.val then some ⟨v.val, by omega⟩ else none

/-- The line states in which a pallet command is allowed (R14). -/
def palletStates : GateCommand → List LineState
  | .insert _ _ .queue => [.setup, .producing, .restricted, .stopped]
  | .insert _ _ (.station _) => [.setup]
  | .remove _ => [.setup, .producing, .restricted, .stopped]
  | .confirm _ => [.setup, .producing, .restricted, .stopped]
  | .setVariant _ _ => [.setup, .prepared, .aligning, .producing, .restricted, .stopped]
  | .quarantine _ => [.setup, .prepared, .aligning, .producing, .restricted, .stopped]
  | .release _ => [.setup, .prepared, .aligning, .producing, .restricted, .stopped]
  | .rejectBlock _ => [.setup, .prepared, .aligning, .producing, .restricted, .stopped]
  | .openSetup | .closeSetup | .beginAlign | .stop | .trip | .resolveIndex _ | .hold | .resume
  | .releaseStation _ => []

/-- The checks of a pallet command: those of every one, the check of its arguments, then its own (R14). -/
def State.palletChecks (c : GateCommand) (argumentsTaken : Bool) (own : List (Bool × Cause))
    (s : State) : List (Bool × Cause) :=
  (!s.indexing, .indexInFlight) :: (!s.gate.frozen, .resolvePending) ::
    (s.lineIn (palletStates c), .notInState) :: (argumentsTaken, .badArgument) :: own

/-- The destination of an INSERT has room (R15, 2). -/
def State.destinationFree (s : State) : Destination → Bool
  | .queue => s.tracking.queue.length < s.config.params.returnCap
  | .station k =>
    match s.lineStation k with
    | some j => !(s.entry j).occupied
    | none => false

/-- The arguments of an INSERT are in range (R14, 4). -/
def State.insertArguments (s : State) (v : Fin 8) (d : Destination) : Bool :=
  (s.lineVariant v).isSome &&
    match d with
    | .queue => true
    | .station k => (s.lineStation k).isSome

/-- The pallet stands where REMOVE takes it: anywhere in SETUP, in the queue elsewhere (R17). -/
def State.removable (s : State) (p : PalletNo) : Bool :=
  match s.location p with
  | .none => false
  | .station _ => s.line.state = .setup
  | .queue _ => true

/-- The checks of a gate command by its owner, in order, at arrival and again at the OK response (R174). -/
def State.commandChecks (c : GateCommand) (s : State) : List (Bool × Cause) :=
  match c with
  | .openSetup => [(s.lineIn [.prepared, .stopped, .tripped], .notInState)]
  | .closeSetup =>
    [(s.lineIn [.setup], .notInState), (!s.gate.frozen, .resolvePending),
      (s.crossChecksPass, .badConfig)]
  | .beginAlign => [(s.lineIn [.prepared, .stopped], .notInState), (!s.pins.estop, .estopActive)]
  | .stop => [(s.lineIn [.aligning, .producing, .restricted, .stopped], .notInState)]
  | .trip =>
    [(s.lineIn [.prepared, .aligning, .producing, .restricted, .stopped, .tripped], .notInState)]
  | .insert p v d =>
    s.palletChecks c (s.insertArguments v d)
      [((s.pallet p).service = .out, .palletState), (s.destinationFree d, .location)]
  | .remove p => s.palletChecks c true [(s.removable p, .location)]
  | .setVariant p v =>
    s.palletChecks c (s.lineVariant v).isSome
      [((s.pallet p).service = .inService && (s.pallet p).block = .empty, .blockState)]
  | .quarantine p => s.palletChecks c true [((s.pallet p).service = .inService, .palletState)]
  | .release p =>
    s.palletChecks c true
      [((s.pallet p).service = .quarantine && (s.stationOf p).isSome, .palletState)]
  | .rejectBlock p => s.palletChecks c true [((s.pallet p).block = .inWork, .blockState)]
  | .confirm k => s.palletChecks c (s.lineStation k).isSome []
  | .resolveIndex o =>
    [(s.lineIn [.setup] && s.gate.frozen, .notInState),
      (o = 1 || o = 2, .badArgument),
      (o != 1 || s.exitHasRoom, .returnFull)]
  | .hold => [(s.lineIn [.producing, .restricted, .stopped], .notInState)]
  | .resume => [(s.lineIn [.aligning, .producing, .restricted, .stopped], .notInState)]
  | .releaseStation k =>
    [(s.lineIn [.aligning, .producing, .restricted, .stopped], .notInState),
      ((s.lineStation k).isSome, .badArgument),
      (match s.lineStation k with
        | some j => (s.station j).engagement.isSome && (s.station j).limit
        | none => false, .stationState)]

/-- The cause with which a gate command is refused or dropped, if its checks fail (R174). -/
def State.commandCause (c : GateCommand) (s : State) : Option Cause :=
  firstFailure (s.commandChecks c)

/-- The place that the refusal of a gate command names (R14, R52, R74, R86, R185). -/
def State.commandPlace (c : GateCommand) (cause : Cause) (s : State) : Place :=
  match c with
  | .openSetup | .beginAlign | .stop | .trip | .hold | .resume => .none
  | .closeSetup =>
    if cause = .badConfig then ⟨s.failingStation.map StationNo.wide, Option.none⟩ else .none
  | .insert p _ .queue => ⟨Option.none, some p⟩
  | .insert p _ (.station k) => ⟨some k, some p⟩
  | .remove p | .setVariant p _ | .quarantine p | .release p | .rejectBlock p =>
    ⟨Option.none, some p⟩
  | .confirm k => ⟨some k, Option.none⟩
  | .resolveIndex _ => if cause = .returnFull then s.placeAt s.unloadStation else .none
  | .releaseStation k =>
    match positionOf k with
    | some j => s.placeAt j
    | Option.none => .none

/-- The record of a pallet as INSERT leaves it; laps is unchanged (R16). -/
def Pallet.inserted (r : Pallet) (v : Fin 6) : Pallet :=
  { r with
    service := .inService, variant := v, block := .empty, offset := .zero, ungauged := 0,
    lost := false, gauged := false }

/-- INSERT taken: the record set, then the queue tail or the entry PREDICTED (R16). -/
def State.insertPallet (p : PalletNo) (v : Fin 6) (d : Destination) (s : State) : State :=
  let placed := s.setPallet p ((s.pallet p).inserted v)
  match d with
  | .queue => placed.setQueue (placed.tracking.queue ++ [p])
  | .station k =>
    match s.lineStation k with
    | some j => placed.setEntry j { pallet := some p, status := .predicted }
    | none => placed

/-- REMOVE taken: the pallet leaves its entry, which becomes none CONFIRMED, or its queue position, and is OUT (R17). -/
def State.removePallet (p : PalletNo) (s : State) : State :=
  match s.location p with
  | .station k => (s.setEntry k .vacant).setService p .out
  | .queue _ => (s.unqueue p).setService p .out
  | .none => s.setService p .out

/-- SET_VARIANT taken: the variant alone (R18). -/
def State.changeVariant (p : PalletNo) (v : Fin 6) (s : State) : State :=
  s.setPallet p { s.pallet p with variant := v }

/-- STOP taken, by the line state and the index state (R90). -/
def State.stopLine (s : State) : State :=
  match s.line.state with
  | .aligning => s.endAlignment.enterLine .stopped
  | .producing | .restricted =>
    if s.indexing then { s with line := { s.line with stopPending := true } }
    else s.enterLine .stopped
  | .setup | .prepared | .stopped | .tripped => s

/-- A change made for a value that is there. -/
def State.withSome {α : Type} (x : Option α) (f : α → State → State) (s : State) : State :=
  match x with
  | some a => f a s
  | none => s

/-- The effect of a gate command at its OK response (R174). -/
def State.commandEffect (c : GateCommand) (s : State) : State :=
  match c with
  | .openSetup => s.enterSetup
  | .closeSetup => s.enterLine .prepared
  | .beginAlign => s.beginAlignment
  | .stop => s.stopLine
  | .trip => s.trip .tripCommand
  | .insert p v d => s.withSome (s.lineVariant v) fun w s => s.insertPallet p w d
  | .remove p => s.removePallet p
  | .setVariant p v => s.withSome (s.lineVariant v) fun w s => s.changeVariant p w
  | .quarantine p => s.quarantinePallet p
  | .release p => s.setService p .inService
  | .rejectBlock p => s.setBlock p .reject
  | .confirm k => s.withSome (s.lineStation k) fun j s => s.setStatus j .confirmed
  | .resolveIndex o => if o = 1 then s.resolveComplete else s.resolveNotMoved
  | .hold => s.holdLine
  | .resume => s.resumeLine
  | .releaseStation k => s.withSome (s.lineStation k) fun j s => s.releaseEngagement j

end Sys2Proof.Machine
end

