-- ==== Sys2Proof/Machine/Windows.lean ====
section
/-! DEFINITION. The line image: the windows of R158 and the words of the gate control block (R160; 11, Gate control block). -/

namespace Sys2Proof.Machine

/-- The words of the gate control block. -/
inductive GateWord where
  | status0 | status1 | faultSets | flagWord | flagEnable | report0 | report1 | refusalCount
  | dropRecord | indexCapture | lastTag | gateCommand | transfer | tag | selector | captureClear
  | gaugeData (axis : Axis)
  | gaugeHeader | other
  deriving DecidableEq, Repr

/-- The windows of the line image, with the station, entry or word an offset falls in. -/
inductive Window where
  | gate (word : GateWord)
  | params
  | descriptor (k : StationNo)
  | variant (v : Fin 6)
  | rule (r : Fin 24)
  | palletView | mapView | captureView
  | command (k : StationNo)
  | stationView (k : StationNo)
  | rovingView
  | passed
  deriving DecidableEq, Repr

/-- The gate control block's word at a word number, its offset divided by 4 (11, Gate control block). -/
def gateWordAt (n : Nat) : GateWord :=
  match n with
  | 0x00 => .status0
  | 0x01 => .status1
  | 0x02 => .faultSets
  | 0x03 => .flagWord
  | 0x04 => .flagEnable
  | 0x05 => .report0
  | 0x06 => .report1
  | 0x07 => .refusalCount
  | 0x08 => .dropRecord
  | 0x09 => .indexCapture
  | 0x0A => .lastTag
  | 0x0C => .gateCommand
  | 0x0D => .transfer
  | 0x0E => .tag
  | 0x0F => .selector
  | 0x10 => .captureClear
  | 0x11 => .gaugeData .x
  | 0x12 => .gaugeData .y
  | 0x13 => .gaugeData .z
  | 0x14 => .gaugeHeader
  | _ => .other

/-- The word number of a word of the gate control block (11, Gate control block). -/
def GateWord.number : GateWord → Nat
  | .status0 => 0x00
  | .status1 => 0x01
  | .faultSets => 0x02
  | .flagWord => 0x03
  | .flagEnable => 0x04
  | .report0 => 0x05
  | .report1 => 0x06
  | .refusalCount => 0x07
  | .dropRecord => 0x08
  | .indexCapture => 0x09
  | .lastTag => 0x0A
  | .gateCommand => 0x0C
  | .transfer => 0x0D
  | .tag => 0x0E
  | .selector => 0x0F
  | .captureClear => 0x10
  | .gaugeData .x => 0x11
  | .gaugeData .y => 0x12
  | .gaugeData .z => 0x13
  | .gaugeHeader => 0x14
  | .other => 0x0B

/-- The offset of a word of the gate control block. -/
def GateWord.offset (w : GateWord) : Offset := BitVec.ofNat 16 (4 * w.number)

/-- The window of an offset (R158). The pallet work records and the offsets between windows are passed both ways. -/
def windowOf (offset : Offset) : Window :=
  let o := offset.toNat
  if o < 0x100 then .gate (gateWordAt (o / 4))
  else if o < 0x200 then .params
  else if o < 0x580 then .descriptor (Fin.ofNat 28 ((o - 0x200) / 32))
  else if o < 0x600 then .passed
  else if o < 0x660 then .variant (Fin.ofNat 6 ((o - 0x600) / 16))
  else if o < 0x700 then .passed
  else if o < 0x7C0 then .rule (Fin.ofNat 24 ((o - 0x700) / 8))
  else if o < 0x800 then .passed
  else if o < 0x1000 then .palletView
  else if o < 0x1100 then .mapView
  else if o < 0x11E0 then .captureView
  else if o < 0x2000 then .passed
  else if o < 0x3C00 then .command (Fin.ofNat 28 ((o - 0x2000) / 256))
  else if o < 0x4000 then .passed
  else if o < 0x5C00 then .stationView (Fin.ofNat 28 ((o - 0x4000) / 256))
  else if o < 0x5D00 then .rovingView
  else .passed

/-- The offset of word n, byte lane l, of a station's command window (R158). -/
def commandOffset (k : StationNo) (word : Nat) (lane : Nat) : Offset :=
  BitVec.ofNat 16 (Config.commandBase + k.val * 256 + word * 4 + lane)

/-- The offset o within a station's view (R158). -/
def viewOffset (k : StationNo) (o : Fin 256) : Offset :=
  BitVec.ofNat 16 (Config.viewBase + k.val * 256 + o.val)

/-- The offset o within the roving view (R158). -/
def rovingOffset (o : Fin 256) : Offset := BitVec.ofNat 16 (Config.rovingBase + o.val)

/-- The offset o within a pallet's work record (R158, R171). -/
def workOffset (p : PalletNo) (o : Nat) : Offset :=
  BitVec.ofNat 16 (Config.workBase + p.val * 256 + o)

/-- The bus address of an offset of the line image (R157). -/
def State.addressOf (s : State) (o : Offset) : Address := s.classifier.base ++ o

/-- The address lies inside the line image (R157). -/
def State.insideImage (s : State) (a : Address) : Bool :=
  a.extractLsb' 16 16 = s.classifier.base

/-- The low sixteen bits of an address: its offset where it lies inside the line image (R157, R190). -/
def offsetOf (a : Address) : Offset := a.extractLsb' 0 16

end Sys2Proof.Machine
end

