-- ==== Sys2Proof/Machine/Views.lean ====
section
/-! DEFINITION. The overlaid words: what a read of each shows, computed from State (R6, R13, R82, R145, R169, R170, R175, R186, R188, R190 to R193; 11). -/

namespace Sys2Proof.Machine

/-- The code of a line state (11). -/
def LineState.code : LineState → Nat
  | .setup => 0
  | .prepared => 1
  | .aligning => 2
  | .producing => 3
  | .restricted => 4
  | .stopped => 5
  | .tripped => 6

/-- The code of a trip cause (11). -/
def TripCause.code : TripCause → Nat
  | .none => 0
  | .tripCommand => 1
  | .estop => 2
  | .driveFault => 3
  | .indexTimeout => 4
  | .clearLost => 5
  | .mapConflict => 6
  | .controllerReset => 7

/-- The code of a tag outcome (11). -/
def TagOutcome.code : TagOutcome → Nat
  | .noRead => 0
  | .matched => 1
  | .uncertain => 2
  | .corrected => 3
  | .conflict => 4

/-- The code of a service state (R2). -/
def Service.code : Service → Nat
  | .out => 0
  | .inService => 1
  | .quarantine => 2

/-- The code of a block state (R3). -/
def Block.code : Block → Nat
  | .empty => 0
  | .inWork => 1
  | .reject => 2

/-- The code of an entry status (R9). -/
def Status.code : Status → Nat
  | .predicted => 0
  | .confirmed => 1
  | .uncertain => 2

/-- The code of a transaction kind (11, Refusal report 0). -/
def Kind.code : Kind → Nat
  | .read => 0
  | .write => 1

/-- A number that may be absent, 0 for none (R193). -/
def numberOr0 {n : Nat} (x : Option (Fin n)) : Nat :=
  match x with
  | some a => a.val
  | none => 0

/-- Line status word 0 (11). -/
def State.status0 (s : State) : Word :=
  pack
    [ (0, 3, s.line.state.code), (3, 3, s.line.tripCause.code), (6, 1, s.line.stopPending.toNat),
      (7, 1, s.indexing.toNat), (8, 1, s.monitor.held.toNat), (9, 1, s.gate.frozen.toNat),
      (10, 1, s.identity.aborted.toNat), (11, 1, s.identity.corrected.toNat),
      (16, 8, s.line.cycle.toNat) ]

/-- Line status word 1 (11). -/
def State.status1 (s : State) : Word :=
  pack [(0, 4, s.line.failed), (8, 5, s.line.clean), (16, 5, s.identity.remaining)]

/-- The cycle fault set word (11). -/
def State.faultSets (s : State) : Word :=
  pack [(0, 8, s.line.current.toNat), (8, 8, s.line.last.toNat)]

/-- Refusal report word 0 (11). -/
def RefusalReport.word0 (r : RefusalReport) : Word :=
  pack
    [ (0, 5, r.cause.code), (5, 1, r.kind.code), (6, 1, r.outside.toNat), (8, 8, r.cycle.toNat),
      (16, 16, r.offset.toNat) ]

/-- Refusal report word 1 (11). -/
def RefusalReport.word1 (r : RefusalReport) : Word :=
  pack
    [ (0, 5, numberOr0 r.station), (7, 1, r.station.isSome.toNat), (8, 6, numberOr0 r.pallet),
      (15, 1, r.pallet.isSome.toNat) ]

/-- The drop record word (11). -/
def DropRecord.word (d : DropRecord) : Word :=
  pack
    [ (0, 1, d.valid.toNat), (1, 5, d.cause.code), (8, 8, d.cycle.toNat),
      (16, 16, d.offset.toNat) ]

/-- A capture's value, valid and overwritten (11, Index capture; Station capture view word 0). -/
def Capture.fields (c : Capture) : List (Nat × Nat × Nat) :=
  [(0, 16, c.value), (16, 1, c.valid.toNat), (17, 1, c.overwritten.toNat)]

/-- The last-tag word (11). -/
def tagRecordWord (t : Option TagRecord) : Word :=
  match t with
  | none => 0
  | some r =>
    pack
      [ (0, 1, 1), (1, 2, r.reader.val), (3, 3, r.outcome.code), (6, 5, r.station.val),
        (11, 6, numberOr0 r.palletRead), (17, 6, numberOr0 r.entryBefore),
        (23, 1, r.entryBefore.isSome.toNat), (24, 8, r.cycle.toNat) ]

/-- The overlaid words of the gate control block (R160). -/
def State.gateWordValue (s : State) : GateWord → Word
  | .status0 => s.status0
  | .status1 => s.status1
  | .faultSets => s.faultSets
  | .flagWord => s.flagUnit.flags.setWidth 32
  | .flagEnable => s.flagUnit.enables.setWidth 32
  | .report0 => s.flagUnit.report.word0
  | .report1 => s.flagUnit.report.word1
  | .refusalCount => pack [(0, 16, s.flagUnit.refusals)]
  | .dropRecord => s.classifier.drop.word
  | .indexCapture => pack s.gate.capture.fields
  | .lastTag => tagRecordWord s.identity.tag
  | .gateCommand | .transfer | .tag | .selector | .captureClear | .gaugeData _ | .gaugeHeader
  | .other => 0

/-- The kind and number of a location (11, Views). -/
def Location.fields : Location → Nat × Nat
  | .none => (0, 0)
  | .station k => (1, k.val)
  | .queue i => (2, i)

/-- Word n of a pallet table view entry (11, Views). -/
def State.palletViewWord (s : State) (p : PalletNo) (n : Nat) : Word :=
  let r := s.pallet p
  let place := (s.location p).fields
  match n with
  | 0 =>
    pack
      [ (0, 2, r.service.code), (2, 2, r.block.code), (4, 1, r.lost.toNat),
        (5, 1, r.gauged.toNat), (8, 3, r.variant.val), (16, 4, r.ungauged), (24, 2, place.1) ]
  | 1 => pack [(0, 6, place.2), (16, 16, r.laps)]
  | 2 => pack [(0, 16, (s.variantEntry r.variant).code)]
  | 3 => BitVec.ofInt 32 r.offset.x
  | 4 => BitVec.ofInt 32 r.offset.y
  | 5 => BitVec.ofInt 32 r.offset.z
  | _ => 0

/-- A pallet number or none as a byte: the number in bits 0 to 5, present in bit 7 (11, Views). -/
def palletByte (p : Option PalletNo) : Nat :=
  match p with
  | some q => q.val + 128
  | none => 0

/-- A map position as the view shows it; beyond the line none CONFIRMED (R13). -/
def State.shownEntry (s : State) (k : StationNo) : MapEntry :=
  if s.inLine k then s.entry k else .vacant

/-- The bytes of the map and queue view (R13; 11, Views). -/
def State.mapViewByte (s : State) (i : Nat) : Nat :=
  if i < 56 then
    let e := s.shownEntry (Fin.ofNat 28 (i / 2))
    if i % 2 = 0 then palletByte e.pallet else e.status.code
  else if i = 0x40 then s.tracking.queue.length % 64
  else if 0x44 ≤ i ∧ i < 0x68 then palletByte s.tracking.queue[i - 0x44]?
  else 0

/-- Word n of a station capture view entry (R82; 11, Views). -/
def State.captureViewWord (s : State) (k : StationNo) (n : Nat) : Word :=
  let st := s.station k
  if n = 0 then
    pack
      (st.capture.fields ++
        [ (18, 1, st.engagement.isSome.toNat),
          (19, 1, (st.engagement.any Engagement.casting).toNat),
          (20, 1, (st.engagement.any Engagement.acknowledged).toNat), (21, 1, st.warn.toNat),
          (22, 1, st.noAck.toNat), (23, 1, st.limit.toNat), (24, 1, st.clear.filtered.toNat),
          (25, 1, (s.present k).toNat), (26, 1, st.enable.toNat),
          (27, 1, (s.unitRuns k).toNat) ])
  else pack [(0, 16, st.budget)]

/-- The word at which four bytes begin. -/
def wordOfBytes (b : Nat → Nat) (first : Nat) : Word := BitVec.ofNat 32 (leRead b first 4)

/-- The part's value for the overlaid word that holds an offset (R169). Windows that are not overlaid have none; theirs is written as 0 and never read. -/
def State.overlayWord (s : State) (offset : Offset) : Word :=
  let o := offset.toNat / 4 * 4
  match windowOf offset with
  | .gate w => s.gateWordValue w
  | .params => wordOfBytes s.config.params.byte (o - 0x100)
  | .descriptor k => wordOfBytes (s.descriptor k).byte ((o - 0x200) % 32)
  | .variant v => wordOfBytes (s.variantEntry v).byte ((o - 0x600) % 16)
  | .rule r => wordOfBytes (s.rule r).byte ((o - 0x700) % 8)
  | .palletView => s.palletViewWord (Fin.ofNat 64 ((o - 0x800) / 32)) (o % 32 / 4)
  | .mapView => wordOfBytes s.mapViewByte (o - 0x1000)
  | .captureView => s.captureViewWord (Fin.ofNat 28 ((o - 0x1100) / 8)) (o % 8 / 4)
  | .command _ | .stationView _ | .rovingView | .passed => 0

/-- The data an overlaid read returns: the bytes of the part's word that the read covers (R169). -/
def State.overlay (s : State) (offset : Offset) (size : Size) : Word :=
  readLanes (s.overlayWord offset) offset size

end Sys2Proof.Machine
end

