-- ==== Sys2Proof/Machine/Classifier.lean ====
section
/-! DEFINITION. The transaction classifier: the decision at arrival, forwarding, the effects at the OK response, drops, image errors, the time limit and the abandonment at controller reset (08). -/

namespace Sys2Proof.Machine

/-- What the classifier decides at an arrival: a refusal with its cause and place, or the treatment, the target offset and the data to send (R159). -/
inductive Decision where
  | refuse (cause : Cause) (place : Place)
  | forward (treatment : Treatment) (target : Offset) (sent : Word)
  deriving DecidableEq, Repr

/-- The request goes out to its own offset with its own data. -/
def Request.forwardAs (q : Request) (t : Treatment) : Decision := .forward t q.offset q.data

/-- The cause of the first check that fails refuses; else the decision that follows. -/
def Decision.after (checks : List (Bool × Cause)) (place : Cause → Place) (next : Decision) :
    Decision :=
  match firstFailure checks with
  | some cause => .refuse cause (place cause)
  | none => next

/-- The lowest-numbered station of a kind, with the pallet of its entry, or none. -/
def State.placeOfFirst (s : State) (test : StationNo → Bool) : Place :=
  match allStations.find? test with
  | some k => s.placeAt k
  | none => .none

/-- The place of a refused index request (R34). -/
def State.indexPlace (s : State) (cause : Cause) : Place :=
  if cause = .stationEngaged then s.placeOfFirst s.engagedAt
  else if cause = .stationNotClear then s.placeOfFirst s.notClearAt
  else if cause = .returnFull then s.placeAt s.unloadStation
  else if cause = .tagPending then s.placeOfFirst s.tagPendingAt
  else if cause = .uncertainEntry then s.placeOfFirst s.uncertainAt
  else .none

/-- A write of the gate command word (R173, R174). -/
def State.decideGate (s : State) (q : Request) : Decision :=
  if q.size != .four then .refuse .malformed .none
  else
    match readGateCommand q.data with
    | .error cause => .refuse cause .none
    | .ok c =>
      .after (s.commandChecks c) (fun cause => s.commandPlace c cause) (q.forwardAs .snoop)

/-- A write of the transfer command word (R32, R33). -/
def State.decideTransfer (s : State) (q : Request) : Decision :=
  if q.size != .four then .refuse .malformed .none
  else
    match readTransfer q.data with
    | none => .refuse .malformed .none
    | some (true, override) => .after (s.indexChecks override) s.indexPlace (q.forwardAs .snoop)
    | some (false, _) =>
      if s.line.state = .tripped then .refuse .notInState .none else q.forwardAs .pass

/-- The line checks of a tag, at arrival and again at the OK response (R111). -/
def State.tagChecks (s : State) : List (Bool × Cause) :=
  [ (!s.indexing, .indexInFlight),
    (s.lineIn [.aligning, .producing, .restricted, .stopped], .notInState) ]

/-- The format checks 2 to 5 of a tag (R110). -/
def State.tagFormat (s : State) (w : Word) : List (Bool × Cause) :=
  let t := readTag w
  [ (tagSpareZero w, .malformed),
    (t.quality ≤ 1, .malformed),
    ((s.readerStation t.reader).isSome, .malformed),
    (t.quality != 0 || t.goodMatched, .malformed) ]

/-- The place of a refused tag: the reader's station where the reader field was examined, the pallet read where it is GOOD and its complement matches (R111; log 15). -/
def State.tagPlace (s : State) (w : Word) : Place :=
  let t := readTag w
  ⟨if tagSpareZero w && t.quality ≤ 1 then (s.readerStation t.reader).map StationNo.wide
    else Option.none,
    if t.goodMatched then some t.pallet else Option.none⟩

/-- A write of the tag word (R110, R111). -/
def State.decideTag (s : State) (q : Request) : Decision :=
  if q.size != .four then .refuse .malformed .none
  else
    .after (s.tagFormat q.data ++ s.tagChecks) (fun _ => s.tagPlace q.data) (q.forwardAs .snoop)

/-- The entry of the gauge station holds the pallet and is not UNCERTAIN (R132, 3). -/
def State.gaugeMatches (s : State) (p : PalletNo) : Bool :=
  match s.gaugeStation with
  | some g => (s.entry g).pallet = some p && (s.entry g).status != .uncertain
  | none => false

/-- The checks of a gauge header against the line, at arrival and again at the OK response (R132). -/
def State.headerChecks (s : State) (p : PalletNo) : List (Bool × Cause) :=
  [ (s.gaugeStation.isSome, .notInState),
    (!s.indexing, .gaugeLate),
    (s.gaugeMatches p, .gaugeMismatch) ]

/-- A write of the gauge header word (R131, R132). -/
def State.decideHeader (s : State) (q : Request) : Decision :=
  if q.size != .four then .refuse .malformed .none
  else
    let h := readHeader q.data
    if headerSpareZero q.data && h.status ≤ 1 then
      .after (s.headerChecks h.pallet)
        (fun _ => ⟨s.gaugeStation.map StationNo.wide, some h.pallet⟩) (q.forwardAs .snoop)
    else .refuse .malformed ⟨Option.none, some h.pallet⟩

/-- A write inside the gate control block, by word (R160). -/
def State.decideGateWrite (s : State) (q : Request) : GateWord → Decision
  | .gateCommand => s.decideGate q
  | .transfer => s.decideTransfer q
  | .tag => s.decideTag q
  | .gaugeHeader => s.decideHeader q
  | .gaugeData _ => if q.size != .four then .refuse .malformed .none else q.forwardAs .snoop
  | .captureClear | .selector | .flagWord | .flagEnable | .dropRecord => q.forwardAs .snoop
  | .status0 | .status1 | .faultSets | .report0 | .report1 | .refusalCount | .indexCapture
  | .lastTag => .refuse .readOnly .none
  | .other => q.forwardAs .pass

/-- A read inside the gate control block, by word (R160). -/
def decideGateRead (q : Request) : GateWord → Decision
  | .status0 | .status1 | .faultSets | .flagWord | .flagEnable | .report0 | .report1
  | .refusalCount | .dropRecord | .indexCapture | .lastTag => q.forwardAs .overlay
  | .gateCommand | .transfer | .tag | .selector | .captureClear | .gaugeData _ | .gaugeHeader
  | .other => q.forwardAs .pass

/-- A configuration write: SETUP, then the block's own checks (R146, R180). -/
def State.decideConfig (s : State) (q : Request) (takes : Bool) (place : Place) : Decision :=
  .after [(s.lineIn [.setup], .notInState), (takes, .badConfig)] (fun _ => place)
    (q.forwardAs .snoop)

/-- A write of a word named by a rule, the pallet being there (R149 to R154). -/
def State.decidePatched (s : State) (q : Request) (k : StationNo) (r : PatchRule)
    (p : PalletNo) : Decision :=
  let result := s.patchResult r p q.data
  if !r.fits result && r.trap then .refuse .patchOverflow (s.placeAt k)
  else .forward (.patch (!r.fits result)) q.offset (r.rewrite result q.size)

/-- A write of a word 1 to 63 of a station command window (R57, R148, R149). -/
def State.decideCommandWord (s : State) (q : Request) (k : StationNo) : Decision :=
  match s.ruleFor k (q.offset.toNat % 256 / 4) with
  | some r =>
    .after (s.patchChecks r k q.offset q.size) (fun _ => s.placeAt k)
      (match (s.entry k).pallet with
        | some p => s.decidePatched q k r p
        | none => .refuse .emptyStation (s.placeAt k))
  | none =>
    .after [(!s.indexing, .indexInFlight)] (fun _ => s.placeAt k) (q.forwardAs .pass)

/-- A write of a cycle-start word (R57 to R59). -/
def State.decideCycleStart (s : State) (q : Request) (k : StationNo) : Decision :=
  if q.size != .four then .refuse .malformed (s.placeAt k)
  else
    match readCycleStart q.data with
    | none => .refuse .malformed (s.placeAt k)
    | some (request, casting) =>
      if casting && k.val != 0 then .refuse .malformed (s.placeAt k)
      else if request then
        .after (s.startChecks k) (fun _ => s.placeAt k) (q.forwardAs (.cycleStart k casting))
      else .after [(!s.indexing, .indexInFlight)] (fun _ => s.placeAt k) (q.forwardAs .pass)

/-- A write of a station command window (R57, R58, R148). -/
def State.decideCommandWrite (s : State) (q : Request) (k : StationNo) : Decision :=
  if q.offset.toNat % 256 / 4 = 0 then s.decideCycleStart q k else s.decideCommandWord q k

/-- An access through the view of a station of the line (R171). -/
def State.decideRedirect (s : State) (q : Request) (k : StationNo) : Decision :=
  match (s.entry k).pallet with
  | none => .refuse .emptyStation (s.placeAt k)
  | some p =>
    if (s.entry k).status = .uncertain then .refuse .uncertainEntry (s.placeAt k)
    else .forward .redirect (workOffset p (q.offset.toNat % 256)) q.data

/-- The station position that the view selector names, if it is 0 to 27 (R172). -/
def State.selectedPosition (s : State) : Option StationNo :=
  if h : s.classifier.selector.toNat < 28 then some ⟨s.classifier.selector.toNat, h⟩ else none

/-- The station of the line that the view selector names (R172). -/
def State.selectedStation (s : State) : Option StationNo := s.selectedPosition.filter s.inLine

/-- An access through the roving view (R172). -/
def State.decideRoving (s : State) (q : Request) : Decision :=
  match s.selectedStation with
  | some k => s.decideRedirect q k
  | none => .refuse .noStation ⟨s.selectedPosition.map StationNo.wide, Option.none⟩

/-- Steps 1 to 4 of the decision of a write inside the line image, after alignment (R159). -/
def State.decideWrite (s : State) (q : Request) : Decision :=
  let o := q.offset.toNat
  match windowOf q.offset with
  | .gate w => s.decideGateWrite q w
  | .params => s.decideConfig q (s.paramsTake (o - 0x100) q.size q.data) .none
  | .descriptor k =>
    s.decideConfig q (s.descriptorTakes k ((o - 0x200) % 32) q.size q.data) (s.placeAt k)
  | .variant v => s.decideConfig q (s.variantTakes v ((o - 0x600) % 16) q.size q.data) .none
  | .rule r => s.decideConfig q (s.ruleTakes r ((o - 0x700) % 8) q.size q.data) .none
  | .palletView | .mapView | .captureView => .refuse .readOnly .none
  | .command k => if s.inLine k then s.decideCommandWrite q k else .refuse .noStation .none
  | .stationView k => if s.inLine k then s.decideRedirect q k else .refuse .noStation .none
  | .rovingView => s.decideRoving q
  | .passed => q.forwardAs .pass

/-- Steps 1 to 4 of the decision of a read inside the line image, after alignment (R159). -/
def State.decideRead (s : State) (q : Request) : Decision :=
  match windowOf q.offset with
  | .gate w => decideGateRead q w
  | .params | .descriptor _ | .variant _ | .rule _ | .palletView | .mapView | .captureView =>
    q.forwardAs .overlay
  | .command k => if s.inLine k then q.forwardAs .pass else .refuse .noStation .none
  | .stationView k => if s.inLine k then s.decideRedirect q k else .refuse .noStation .none
  | .rovingView => s.decideRoving q
  | .passed => q.forwardAs .pass

/-- Steps 1 to 4 of R159: alignment, window, station, the window's checks. -/
def State.decide (s : State) (q : Request) : Decision :=
  if q.offset.toNat % q.size.bytes != 0 then .refuse .misaligned .none
  else
    match q.kind with
    | .write => s.decideWrite q
    | .read => s.decideRead q

/-- The place of a refusal whose rule names none (R159): the station and its entry's pallet for a command window or a view of a station of the line, the roving view as the view of its station (log 14), none elsewhere; the entry as it stands at the refusal (log 13). -/
def State.defaultPlace (s : State) (offset : Offset) : Place :=
  match windowOf offset with
  | .command k => if s.inLine k then s.placeAt k else .none
  | .stationView k => if s.inLine k then s.placeAt k else .none
  | .rovingView =>
    match s.selectedStation with
    | some k => s.placeAt k
    | none => .none
  | .gate _ | .params | .descriptor _ | .variant _ | .rule _ | .palletView | .mapView
  | .captureView | .passed => .none

/-- The place of an image error or a stale-port refusal; none outside the line image (R190). -/
def State.errorPlace (s : State) (outside : Bool) (offset : Offset) : Place :=
  if outside then .none else s.defaultPlace offset

/-- The classifier without a transaction: the record empty, the response timer stopped, the answer given (R161). -/
def State.answer (reply : Reply) (s : State) : State :=
  { s with classifier :=
    { s.classifier with
      record := none, timer := { s.classifier.timer with running := false }, reply := reply } }

/-- A refusal: the host receives ERROR, the record becomes empty, the report is written (R159, R191). -/
def State.refuse (kind : Kind) (outside : Bool) (offset : Offset) (cause : Cause) (place : Place)
    (s : State) : State :=
  (s.recordRefusal
    { cause := cause, kind := kind, outside := outside, offset := offset,
      station := place.station, pallet := place.pallet, cycle := s.line.cycle }).answer .error

/-- A refusal at arrival; a patch refused by trap on also sets its flag and cycle fault (R154). -/
def State.refuseArrival (kind : Kind) (offset : Offset) (cause : Cause) (place : Place)
    (s : State) : State :=
  let noted :=
    if cause = .patchOverflow then (s.addFault .patchOverflow).raise .patchOverflow else s
  noted.refuse kind false offset cause place

/-- A transaction that ends in IMAGE_ERROR: the refusal and the flag (R163 to R165). -/
def State.imageError (kind : Kind) (outside : Bool) (offset : Offset) (s : State) : State :=
  (s.raise .imageError).refuse kind outside offset .imageError (s.errorPlace outside offset)

/-- The transaction stands ARRIVED; the host waits (R159). -/
def State.holdRecord (t : Transaction) (s : State) : State :=
  { s with classifier := { s.classifier with record := some t, reply := .none } }

/-- The transaction record of a request inside the line image that is not refused (R159). -/
def State.arrivedRecord (s : State) (q : Request) (treatment : Treatment) (target : Offset)
    (sent : Word) : Transaction :=
  { kind := q.kind, address := s.addressOf q.offset, outside := false, size := q.size,
    data := q.data, treatment := treatment, target := s.addressOf target, sent := sent,
    decidedCause := none, stage := .arrived }

/-- The arrival of a transaction inside the line image (R159). -/
def State.arrive (q : Request) (s : State) : State :=
  match s.decide q with
  | .refuse cause place => s.refuseArrival q.kind q.offset cause place
  | .forward treatment target sent =>
    if s.classifier.stale then s.imageError q.kind false q.offset
    else s.holdRecord (s.arrivedRecord q treatment target sent)

/-- The arrival of a transaction outside the line image: passed, whatever its size, alignment or kind (R157). -/
def State.arriveOutside (kind : Kind) (address : Address) (size : Size) (data : Word)
    (s : State) : State :=
  if s.classifier.stale then s.imageError kind true (offsetOf address)
  else s.holdRecord
    { kind := kind, address := address, outside := true, size := size, data := data,
      treatment := .pass, target := address, sent := data, decidedCause := none,
      stage := .arrived }

/-- The next state, or the fault of a host transaction that arrives while one is in progress (R161; log 4). -/
def State.ifPortFree (s : State) (next : State) : Host.Outcome State Fault Refusal :=
  if s.classifier.record.isSome then .fault .hostPortBusy else .next next

/-- A host write at an offset of the line image arrives. Bits of the data above the size are not on the bus. -/
def State.hostWrite (s : State) (offset : Offset) (size : Size) (data : Word) :
    Host.Outcome State Fault Refusal :=
  s.ifPortFree (s.arrive ⟨.write, offset, size, data &&& size.mask⟩)

/-- A host read at an offset of the line image arrives. -/
def State.hostReadAt (s : State) (offset : Offset) (size : Size) :
    Host.Outcome State Fault Refusal :=
  s.ifPortFree (s.arrive ⟨.read, offset, size, 0⟩)

/-- A host access through a view arrives (R171, R172). -/
def State.hostAccess (s : State) (offset : Offset) : Access → Host.Outcome State Fault Refusal
  | .read size => s.hostReadAt offset size
  | .write size data => s.hostWrite offset size data

/-- A host write at a bus address arrives (R157, R159). -/
def State.hostWriteAddress (s : State) (address : Address) (size : Size) (data : Word) :
    Host.Outcome State Fault Refusal :=
  if s.insideImage address then s.hostWrite (offsetOf address) size data
  else s.ifPortFree (s.arriveOutside .write address size (data &&& size.mask))

/-- A host read at a bus address arrives (R157, R159). -/
def State.hostReadAddress (s : State) (address : Address) (size : Size) :
    Host.Outcome State Fault Refusal :=
  if s.insideImage address then s.hostReadAt (offsetOf address) size
  else s.ifPortFree (s.arriveOutside .read address size 0)

/-- The forward-time effects of a transaction (R162). -/
def Transaction.forwardEffect (t : Transaction) (s : State) : State :=
  match t.treatment with
  | .cycleStart k casting => s.engage k casting
  | .patch true => (s.addFault .patchOverflow).raise .patchOverflow
  | .patch false | .pass | .snoop | .overlay | .redirect => s

/-- An arrived transaction goes out once the port is free, with its forward-time effects; the response timer starts. Without one nothing is forwarded (R162; log 6). -/
def State.forward (s : State) : State :=
  match s.classifier.record with
  | some t =>
    if t.stage = .arrived ∧ !s.classifier.stale then
      let sent := t.forwardEffect s
      { sent with classifier :=
        { sent.classifier with
          record := some { t with stage := .forwarded }
          timer := { count := 0, running := true } } }
    else s
  | none => s

/-- The transaction in progress, if it has been forwarded. -/
def State.forwarded (s : State) : Option Transaction :=
  s.classifier.record.filter fun t => t.stage = .forwarded

/-- The offset of a transaction, or the low sixteen bits of its address (R190). -/
def Transaction.offset (t : Transaction) : Offset := offsetOf t.address

/-- A write dropped at its OK response (R168). -/
def State.drop (offset : Offset) (cause : Cause) (s : State) : State :=
  { s with classifier :=
    { s.classifier with
      drop := { valid := true, offset := wordOffset offset, cause := cause,
                cycle := s.line.cycle } } }

/-- The effect of a snooped write whose checks are made again: taken if they pass, else dropped (R167, R168). -/
def State.takeOrDrop (offset : Offset) (checks : List (Bool × Cause)) (effect : State → State)
    (s : State) : State :=
  match firstFailure checks with
  | some cause => s.drop offset cause
  | none => effect s

/-- A gate command at its OK response (R174). -/
def State.gateAtOk (offset : Offset) (data : Word) (s : State) : State :=
  match readGateCommand data with
  | .ok c => s.takeOrDrop offset (s.commandChecks c) (State.commandEffect c)
  | .error _ => s

/-- An index request at its OK response: accepted, or dropped with INDEX_DROPPED (R36, R37). -/
def State.transferAtOk (offset : Offset) (data : Word) (s : State) : State :=
  match readTransfer data with
  | some (true, override) =>
    match firstFailure (s.indexChecks override) with
    | some cause => (s.drop offset cause).raise .indexDropped
    | none => s.acceptIndex
  | some (false, _) => s
  | none => s

/-- The effect of a tag (R112 to R117). -/
def State.takeTag (t : TagWord) (s : State) : State :=
  match s.readerStation t.reader with
  | some k => if t.quality = 0 then s.takeGood t.reader k t.pallet else s.takeNoRead t.reader k
  | none => s

/-- A tag at its OK response (R111). -/
def State.tagAtOk (offset : Offset) (data : Word) (s : State) : State :=
  s.takeOrDrop offset s.tagChecks (State.takeTag (readTag data))

/-- The effect of a gauge header: VALID applies the result, PROBE_FAIL does nothing (R133, R134). -/
def State.takeHeader (h : GaugeHeader) (s : State) : State :=
  if h.status = 0 then s.applyGaugeResult h.pallet else s

/-- A gauge header at its OK response (R132). -/
def State.headerAtOk (offset : Offset) (data : Word) (s : State) : State :=
  s.takeOrDrop offset (s.headerChecks (readHeader data).pallet) (State.takeHeader (readHeader data))

/-- A gauge data word taken into the holding record, read as a signed 32-bit quantity (R130). -/
def State.takeGaugeData (axis : Axis) (data : Word) (s : State) : State :=
  { s with compensation :=
    match axis with
    | .x => { s.compensation with x := data.toInt }
    | .y => { s.compensation with y := data.toInt }
    | .z => { s.compensation with z := data.toInt } }

/-- The capture-clear word: valid and overwritten of every capture written as 1; bits 28 to 30 carry none (R47, R70). -/
def State.clearCaptures (written : Word) (s : State) : State :=
  let cleared := s.mapStations fun k st =>
    if written.getLsbD k.val then { st with capture := st.capture.clearMarks } else st
  if written.getLsbD 31 then
    { cleared with gate := { cleared.gate with capture := cleared.gate.capture.clearMarks } }
  else cleared

/-- The flag enable word: the written bytes into the copy; bits that carry no flag have no effect (R188). -/
def State.takeEnables (offset : Offset) (size : Size) (data : Word) (s : State) : State :=
  { s with flagUnit :=
    { s.flagUnit with
      enables := (mergeLanes (s.flagUnit.enables.setWidth 32) offset size data).setWidth 22 } }

/-- The view selector: the written bytes into the copy (R172). -/
def State.takeSelector (offset : Offset) (size : Size) (data : Word) (s : State) : State :=
  { s with classifier :=
    { s.classifier with selector := mergeLanes s.classifier.selector offset size data } }

/-- The drop record word: a 1 at the valid position clears valid and leaves the other fields (R168). -/
def State.clearDrop (written : Word) (s : State) : State :=
  if written.getLsbD 0 then
    { s with classifier :=
      { s.classifier with drop := { s.classifier.drop with valid := false } } }
  else s

/-- A configuration write at its OK response: its checks again, then the formed value (R146, R180). -/
def State.configAtOk (offset : Offset) (takes : Bool) (effect : State → State) (s : State) :
    State :=
  s.takeOrDrop offset [(s.lineIn [.setup], .notInState), (takes, .badConfig)] effect

/-- The effect of a snooped write of a gate control word at its OK response (R160, R167). -/
def State.gateWordAtOk (offset : Offset) (size : Size) (data : Word) (s : State) :
    GateWord → State
  | .gateCommand => s.gateAtOk offset data
  | .transfer => s.transferAtOk offset data
  | .tag => s.tagAtOk offset data
  | .gaugeHeader => s.headerAtOk offset data
  | .gaugeData axis => s.takeGaugeData axis data
  | .captureClear => s.clearCaptures (laneData offset size data)
  | .selector => s.takeSelector offset size data
  | .flagWord => s.clearFlags (laneData offset size data)
  | .flagEnable => s.takeEnables offset size data
  | .dropRecord => s.clearDrop (laneData offset size data)
  | .status0 | .status1 | .faultSets | .report0 | .report1 | .refusalCount | .indexCapture
  | .lastTag | .other => s

/-- The effect of a snooped write at its OK response, by window (R167). -/
def State.snoopAtOk (offset : Offset) (size : Size) (data : Word) (s : State) : State :=
  let o := offset.toNat
  match windowOf offset with
  | .gate w => s.gateWordAtOk offset size data w
  | .params =>
    s.configAtOk offset (s.paramsTake (o - 0x100) size data)
      (State.takeParams (s.formedParams (o - 0x100) size data))
  | .descriptor k =>
    s.configAtOk offset (s.descriptorTakes k ((o - 0x200) % 32) size data)
      (State.takeDescriptor k (s.formedDescriptor k ((o - 0x200) % 32) size data))
  | .variant v =>
    s.configAtOk offset (s.variantTakes v ((o - 0x600) % 16) size data)
      (State.takeVariant v (s.formedVariant v ((o - 0x600) % 16) size data))
  | .rule r =>
    s.configAtOk offset (s.ruleTakes r ((o - 0x700) % 8) size data)
      (State.takeRule r (s.formedRule r ((o - 0x700) % 8) size data))
  | .palletView | .mapView | .captureView | .command _ | .stationView _ | .rovingView
  | .passed => s

/-- What the memory's OK does with a forwarded transaction: the snoop effect of a write, the overlay of a read, else the memory's own answer (R163, R167, R169). -/
def State.respondOk (t : Transaction) (data : Word) (s : State) : State :=
  match t.kind, t.treatment with
  | .write, .snoop => (s.answer .ok).snoopAtOk t.offset t.size t.data
  | .write, _ => s.answer .ok
  | .read, .overlay => s.answer (.okData (s.overlay t.offset t.size))
  | .read, _ => s.answer (.okData (data &&& t.size.mask))

/-- The engagement of a START that the memory did not take is withdrawn (R62). -/
def Transaction.undoForward (t : Transaction) (s : State) : State :=
  match t.treatment with
  | .cycleStart k _ => s.withdraw k
  | .pass | .snoop | .overlay | .redirect | .patch _ => s

/-- The memory answers ERROR (R62, R163). -/
def State.respondError (t : Transaction) (s : State) : State :=
  (t.undoForward s).imageError t.kind t.outside t.offset

/-- The image response that is owed to no one is discarded (R165). -/
def State.discardStale (s : State) : State :=
  { s with classifier := { s.classifier with stale := false } }

/-- The second tick boundary has passed without a response (R164). -/
def State.responseOverdue (s : State) : Bool :=
  s.classifier.timer.running && s.classifier.timer.count = Config.responseLimit

/-- The transaction ends at the image response limit: IMAGE_ERROR, IMAGE_TIMEOUT, and the stale indication (R164). -/
def State.timeOut (s : State) : State :=
  match s.forwarded with
  | some t =>
    if s.responseOverdue then
      let ended := (t.undoForward (s.raise .imageTimeout)).imageError t.kind t.outside t.offset
      { ended with classifier := { ended.classifier with stale := true } }
    else s
  | none => s

/-- Controller reset abandons the transaction in progress, with no response; a forwarded one leaves its answer owed (R166). -/
def State.abandonTransaction (s : State) : State :=
  match s.classifier.record with
  | some t =>
    let emptied := s.answer .none
    if t.stage = .forwarded then
      { emptied with classifier := { emptied.classifier with stale := true } }
    else emptied
  | none => s

/-- An image response that is owed: to the transaction forwarded, or, discarded, to one no longer waited for; any other is no response of this bus (R163, R165; logs 5, 7). The model keeps no account of responses across power-on reset, which clears the stale indication: one that the memory still owed is then such another, or goes to the transaction forwarded since (the model's choice, log 33). -/
def State.onResponse (s : State) (act : Transaction → State) : Host.Outcome State Fault Refusal :=
  if s.classifier.stale then .next s.discardStale
  else
    match s.forwarded with
    | some t => .next (act t)
    | none => .fault .responseNotOwed

/-- What is still due from the last tick boundary, taken in a fixed order: the response limit, the filters, the index timer, the budget units, the align timer (log 3). -/
def State.takeDue (s : State) : State :=
  let filtered := allStations.foldl
    (fun s k => (s.settleInput k .clear).settleInput k .presence) s.timeOut
  (allStations.foldl (fun s k => s.takeUnitBoundary k) filtered.takeIndexBoundary).takeAlignBoundary

end Sys2Proof.Machine
end

