-- ==== Sys2Proof/Machine/LineCommands.lean ====
section
/-! DEFINITION. The host's writes of the gate command word for the line states, the index and the stations: OPEN_SETUP, CLOSE_SETUP, BEGIN_ALIGN, STOP, TRIP, RESOLVE_INDEX, HOLD, RESUME, RELEASE_STATION. Each is the arrival of its write (R159, R174); its effect is `State.commandEffect` at the OK response. -/

namespace Sys2Proof.Machine

/-- The host's 4-byte write of a gate command (R173). -/
def State.writeCommand (s : State) (c : GateCommand) : Host.Outcome State Fault Refusal :=
  s.hostWrite GateWord.gateCommand.offset .four c.fields.word

/-- OPEN_SETUP arrives (R86, R87). -/
def execOpenSetup (s : State) : Host.Outcome State Fault Refusal := s.writeCommand .openSetup

/-- CLOSE_SETUP arrives (R86, R88). -/
def execCloseSetup (s : State) : Host.Outcome State Fault Refusal := s.writeCommand .closeSetup

/-- BEGIN_ALIGN arrives (R86, R89). -/
def execBeginAlign (s : State) : Host.Outcome State Fault Refusal := s.writeCommand .beginAlign

/-- STOP arrives (R86, R90). -/
def execStop (s : State) : Host.Outcome State Fault Refusal := s.writeCommand .stop

/-- TRIP arrives (R86, R92). -/
def execTrip (s : State) : Host.Outcome State Fault Refusal := s.writeCommand .trip

/-- RESOLVE_INDEX arrives (R52). -/
def execResolveIndex (outcome : Fin 4) (s : State) : Host.Outcome State Fault Refusal :=
  s.writeCommand (.resolveIndex outcome)

/-- HOLD arrives (R72). -/
def execHold (s : State) : Host.Outcome State Fault Refusal := s.writeCommand .hold

/-- RESUME arrives (R73). -/
def execResume (s : State) : Host.Outcome State Fault Refusal := s.writeCommand .resume

/-- RELEASE_STATION arrives (R74). -/
def execReleaseStation (station : Fin 32) (s : State) : Host.Outcome State Fault Refusal :=
  s.writeCommand (.releaseStation station)

end Sys2Proof.Machine
end

