-- ==== Sys2Proof/Machine/PalletCommands.lean ====
section
/-! DEFINITION. The host's writes of the pallet commands (R14 to R22). Each is the arrival of its write; its effect is `State.commandEffect` at the OK response. -/

namespace Sys2Proof.Machine

/-- INSERT arrives (R15). -/
def execInsert (pallet : PalletNo) (variant : Fin 8) (dest : Destination) (s : State) :
    Host.Outcome State Fault Refusal :=
  s.writeCommand (.insert pallet variant dest)

/-- REMOVE arrives (R17). -/
def execRemove (pallet : PalletNo) (s : State) : Host.Outcome State Fault Refusal :=
  s.writeCommand (.remove pallet)

/-- SET_VARIANT arrives (R18). -/
def execSetVariant (pallet : PalletNo) (variant : Fin 8) (s : State) :
    Host.Outcome State Fault Refusal :=
  s.writeCommand (.setVariant pallet variant)

/-- QUARANTINE arrives (R19). -/
def execQuarantine (pallet : PalletNo) (s : State) : Host.Outcome State Fault Refusal :=
  s.writeCommand (.quarantine pallet)

/-- RELEASE arrives (R20). -/
def execRelease (pallet : PalletNo) (s : State) : Host.Outcome State Fault Refusal :=
  s.writeCommand (.release pallet)

/-- REJECT_BLOCK arrives (R21). -/
def execRejectBlock (pallet : PalletNo) (s : State) : Host.Outcome State Fault Refusal :=
  s.writeCommand (.rejectBlock pallet)

/-- CONFIRM arrives (R22). -/
def execConfirm (station : Fin 32) (s : State) : Host.Outcome State Fault Refusal :=
  s.writeCommand (.confirm station)

end Sys2Proof.Machine
end

