-- ==== Sys2Proof/Machine/WordWrites.lean ====
section
/-! DEFINITION. The host's writes of the guarded, intake and snooped words: INDEX, START, tags, gauge words, the capture-clear, view selector, flag, flag enable and drop record words (R32, R58, R110, R130, R131, R160). -/

namespace Sys2Proof.Machine

/-- A write of the transfer command word with code INDEX arrives (R33). -/
def execIndex (override : Bool) (s : State) : Host.Outcome State Fault Refusal :=
  s.hostWrite GateWord.transfer.offset .four (codeWord true override)

/-- A write of the transfer command word with code NONE arrives (R32). -/
def execTransferNone (override : Bool) (s : State) : Host.Outcome State Fault Refusal :=
  s.hostWrite GateWord.transfer.offset .four (codeWord false override)

/-- A write of a cycle-start word with code START arrives (R58, R59). -/
def execStart (station : StationNo) (casting : Bool) (s : State) :
    Host.Outcome State Fault Refusal :=
  s.hostWrite (commandOffset station 0 0) .four (codeWord true casting)

/-- A write of a cycle-start word with code NONE arrives (R58). -/
def execCycleStartNone (station : StationNo) (casting : Bool) (s : State) :
    Host.Outcome State Fault Refusal :=
  s.hostWrite (commandOffset station 0 0) .four (codeWord false casting)

/-- A tag of quality GOOD arrives (R110, R111). -/
def execTagGood (reader : ReaderNo) (pallet complement : Fin 64) (s : State) :
    Host.Outcome State Fault Refusal :=
  s.hostWrite GateWord.tag.offset .four (tagWord reader 0 pallet complement)

/-- A tag of quality NO_READ arrives (R110, R111). -/
def execTagNoRead (reader : ReaderNo) (pallet complement : Fin 64) (s : State) :
    Host.Outcome State Fault Refusal :=
  s.hostWrite GateWord.tag.offset .four (tagWord reader 1 pallet complement)

/-- A write of a gauge data word arrives (R130). -/
def execGaugeDataWrite (axis : Axis) (value : Word) (s : State) :
    Host.Outcome State Fault Refusal :=
  s.hostWrite (GateWord.gaugeData axis).offset .four value

/-- A gauge header of status VALID arrives (R131, R132). -/
def execGaugeHeaderValid (pallet : PalletNo) (s : State) : Host.Outcome State Fault Refusal :=
  s.hostWrite GateWord.gaugeHeader.offset .four (headerWord pallet 0)

/-- A gauge header of status PROBE_FAIL arrives (R131, R132). -/
def execGaugeHeaderProbeFail (pallet : PalletNo) (s : State) :
    Host.Outcome State Fault Refusal :=
  s.hostWrite GateWord.gaugeHeader.offset .four (headerWord pallet 1)

/-- The offset of a byte lane of a gate control word. -/
def GateWord.lane (w : GateWord) (lane : Fin 4) : Offset :=
  BitVec.ofNat 16 (4 * w.number + lane.val)

/-- A write of the capture-clear word arrives (R47, R70). -/
def execCaptureClearWrite (lane : Fin 4) (size : Size) (data : Word) (s : State) :
    Host.Outcome State Fault Refusal :=
  s.hostWrite (GateWord.captureClear.lane lane) size data

/-- A write of the view selector word arrives (R172). -/
def execViewSelectorWrite (lane : Fin 4) (size : Size) (data : Word) (s : State) :
    Host.Outcome State Fault Refusal :=
  s.hostWrite (GateWord.selector.lane lane) size data

/-- A write of the flag word arrives (R187). -/
def execFlagWordWrite (lane : Fin 4) (size : Size) (data : Word) (s : State) :
    Host.Outcome State Fault Refusal :=
  s.hostWrite (GateWord.flagWord.lane lane) size data

/-- A write of the flag enable word arrives (R188). -/
def execFlagEnableWrite (lane : Fin 4) (size : Size) (data : Word) (s : State) :
    Host.Outcome State Fault Refusal :=
  s.hostWrite (GateWord.flagEnable.lane lane) size data

/-- A write of the drop record word arrives (R168). -/
def execDropRecordClear (lane : Fin 4) (size : Size) (data : Word) (s : State) :
    Host.Outcome State Fault Refusal :=
  s.hostWrite (GateWord.dropRecord.lane lane) size data

end Sys2Proof.Machine
end

