-- ==== Sys2Proof/Machine/HostAccess.lean ====
section
/-! DEFINITION. The host's writes of the configuration blocks and of patched words, its accesses through the views, and every other read and write (R146, R149, R157, R158, R171, R172, R180). -/

namespace Sys2Proof.Machine

/-- A write to the line parameter, station descriptor or variant table block arrives (R180). -/
def execConfigurationWrite (offset : Offset) (size : Size) (data : Word) (s : State) :
    Host.Outcome State Fault Refusal :=
  s.hostWrite offset size data

/-- A write to the patch rule block arrives (R146). -/
def execPatchRuleWrite (offset : Offset) (size : Size) (data : Word) (s : State) :
    Host.Outcome State Fault Refusal :=
  s.hostWrite offset size data

/-- A write of a word of a station command window arrives, to be patched where an enabled rule names the word (R148, R149). -/
def execPatchedWrite (station : StationNo) (word : Fin 64) (lane : Fin 4) (size : Size)
    (data : Word) (s : State) : Host.Outcome State Fault Refusal :=
  s.hostWrite (commandOffset station word.val lane.val) size data

/-- An access to a station view arrives (R171). -/
def execStationViewAccess (station : StationNo) (offset : Fin 256) (access : Access) (s : State) :
    Host.Outcome State Fault Refusal :=
  s.hostAccess (viewOffset station offset) access

/-- An access to the roving view arrives (R172). -/
def execRovingViewAccess (offset : Fin 256) (access : Access) (s : State) :
    Host.Outcome State Fault Refusal :=
  s.hostAccess (rovingOffset offset) access

/-- Any other host write arrives: what the window, the word and its format make of it (R157 to R160). -/
def execHostWriteOther (address : Address) (size : Size) (data : Word) (s : State) :
    Host.Outcome State Fault Refusal :=
  s.hostWriteAddress address size data

/-- A host read arrives (R157, R159). -/
def execHostRead (address : Address) (size : Size) (s : State) :
    Host.Outcome State Fault Refusal :=
  s.hostReadAddress address size

end Sys2Proof.Machine
end

