-- ==== Sys2Proof/Machine/BusSteps.lean ====
section
/-! DEFINITION. The steps of a transaction after its arrival: forwarding, the image response, its limit, and the discard of a late one (R162 to R165). -/

namespace Sys2Proof.Machine

/-- An arrived transaction is forwarded (R162). -/
def execTransactionForward (s : State) : Host.Outcome State Fault Refusal := .next s.forward

/-- The memory answers OK, with the data of a read (R163). -/
def execImageResponseOk (data : Word) (s : State) : Host.Outcome State Fault Refusal :=
  s.onResponse fun t => s.respondOk t data

/-- The memory answers ERROR (R163). -/
def execImageResponseError (s : State) : Host.Outcome State Fault Refusal :=
  s.onResponse fun t => s.respondError t

/-- The image response limit passes, if it has been reached (R164; log 6). -/
def execImageResponseTimeout (s : State) : Host.Outcome State Fault Refusal := .next s.timeOut

/-- A late owed response arrives and is discarded (R165); after power-on reset none is owed (log 33). -/
def execStaleResponseDiscard (s : State) : Host.Outcome State Fault Refusal :=
  if s.classifier.stale then .next s.discardStale else .fault .responseNotOwed

end Sys2Proof.Machine
end

