-- ==== Sys2Proof/Machine/FieldSteps.lean ====
section
/-! DEFINITION. The field inputs: at-rest, drive fault, emergency stop, controller reset, power-on reset, and the filtered station inputs (R41, R42, R79, R96, R97, R176). -/

namespace Sys2Proof.Machine

/-- The at-rest input falls: motion-seen while an index is in flight (R41). -/
def execAtRestFall (s : State) : Host.Outcome State Fault Refusal :=
  let fallen := { s with pins := { s.pins with atRest := false } }
  .next
    (if fallen.indexing then { fallen with gate := { fallen.gate with motionSeen := true } }
    else fallen)

/-- The at-rest input rises: the completion of an index with motion seen (R41, R45). -/
def execAtRestRise (s : State) : Host.Outcome State Fault Refusal :=
  let risen := { s with pins := { s.pins with atRest := true } }
  .next (if risen.indexing && risen.gate.motionSeen then risen.completeIndex else risen)

/-- The drive-fault input rises: DRIVE_FAULT, and a trip while an index is in flight (R42). A rise taken after a completion only sets the flag, as R42 says; where R49 has the line trip after a completion taken first, for R42's cause too, following R42 is the model's choice (log 32). -/
def execDriveFaultRise (s : State) : Host.Outcome State Fault Refusal :=
  let risen := { s with pins := { s.pins with driveFault := true } }.raise .driveFault
  .next (if risen.indexing then risen.trip .driveFault else risen)

/-- The drive-fault input falls: only its refusal ends (R42). -/
def execDriveFaultFall (s : State) : Host.Outcome State Fault Refusal :=
  .next { s with pins := { s.pins with driveFault := false } }

/-- The emergency-stop input becomes active: ESTOP, and a trip claim (R96). -/
def execEstopActive (s : State) : Host.Outcome State Fault Refusal :=
  .next (({ s with pins := { s.pins with estop := true } }.raise .estop).trip .estop)

/-- The emergency-stop input becomes inactive: only its refusals end (R96). -/
def execEstopInactive (s : State) : Host.Outcome State Fault Refusal :=
  .next { s with pins := { s.pins with estop := false } }

/-- The controller-reset input is asserted: the transaction in progress is abandoned, and the line trips from ALIGNING, PRODUCING, RESTRICTED and STOPPED (R97, R166). -/
def execControllerResetAssert (s : State) : Host.Outcome State Fault Refusal :=
  let abandoned := { s with pins := { s.pins with controllerReset := true } }.abandonTransaction
  .next
    (if abandoned.lineIn [.aligning, .producing, .restricted, .stopped] then
      abandoned.trip .controllerReset
    else abandoned)

/-- The controller-reset input is deasserted, with no effect on the part (R97). -/
def execControllerResetDeassert (s : State) : Host.Outcome State Fault Refusal :=
  .next { s with pins := { s.pins with controllerReset := false } }

/-- Power-on reset: every value its power-on value, the straps sampled, the effective inputs at the levels found, and an emergency stop or drive fault found active taken as becoming so (R42, R56, R96, R157, R176). A response the memory still owed is forgotten with the stale indication (R165; what becomes of it is the model's choice, log 33). -/
def execPowerOnReset (straps : BitVec 16) (s : State) : Host.Outcome State Fault Refusal :=
  let cleared :=
    { State.reset with
      classifier := { State.reset.classifier with base := straps }
      monitor :=
        { State.reset.monitor with
          stations := Vector.ofFn fun k =>
            .powerOn (s.station k).clear.level (s.station k).presence.level }
      pins := s.pins
      pending := s.pending }
  .next ((cleared.raiseIf s.pins.estop .estop).raiseIf s.pins.driveFault .driveFault)

/-- A station clear input takes a level (R79). -/
def execClearInputChange (station : StationNo) (level : Bool) (s : State) :
    Host.Outcome State Fault Refusal :=
  .next (s.updateClear station (InputLine.change s.config.params.filterMs level))

/-- A station presence input takes a level (R79). -/
def execPresenceInputChange (station : StationNo) (level : Bool) (s : State) :
    Host.Outcome State Fault Refusal :=
  .next (s.updatePresence station (InputLine.change s.config.params.filterMs level))

/-- A pending input level that has held for FILTER_MS ticks becomes the effective value (R79). -/
def execFilterSettle (station : StationNo) (input : FieldInput) (s : State) :
    Host.Outcome State Fault Refusal :=
  .next (s.settleInput station input)

end Sys2Proof.Machine
end

