-- ==== Sys2Proof/Machine/TimeSteps.lean ====
section
/-! DEFINITION. The 1 ms tick boundary and the marks that counters reach at it (R39, R40, R64 to R66, R123). A boundary at which a counter would reach a mark is left due by the tick and taken by the mark's own step, so that either order with another event can be given (log 3). -/

namespace Sys2Proof.Machine

/-- A tick boundary: what is still due from the last one is taken, then every running counter counts or falls due (R39, R64, R79, R121, R164; log 3). -/
def execTimeBaseTick (s : State) : Host.Outcome State Fault Refusal := .next s.takeDue.advance

/-- The index timer reaches INDEX_SLOW (R39). -/
def execIndexSlowMark (s : State) : Host.Outcome State Fault Refusal :=
  .next (if s.gate.timer.count + 1 = s.config.params.indexSlow then s.takeIndexBoundary else s)

/-- The index timer reaches INDEX_LIMIT (R40). -/
def execIndexLimitMark (s : State) : Host.Outcome State Fault Refusal :=
  .next (if s.gate.timer.count + 1 = s.config.params.indexLimit then s.takeIndexBoundary else s)

/-- A budget unit reaches its ACK mark (R65). -/
def execAckMark (station : StationNo) (s : State) : Host.Outcome State Fault Refusal :=
  .next
    (if s.unitNext station = (s.descriptor station).ack then s.takeUnitBoundary station else s)

/-- A budget unit reaches its WARN mark (R66). -/
def execWarnMark (station : StationNo) (s : State) : Host.Outcome State Fault Refusal :=
  .next
    (if s.unitNext station = (s.descriptor station).warn then s.takeUnitBoundary station else s)

/-- A budget unit reaches its LIMIT mark (R66). -/
def execLimitMark (station : StationNo) (s : State) : Host.Outcome State Fault Refusal :=
  .next
    (if s.unitNext station = (s.descriptor station).limit then s.takeUnitBoundary station else s)

/-- The align timer reaches ALIGN_WINDOW (R123). -/
def execAlignWindowExpiry (s : State) : Host.Outcome State Fault Refusal :=
  .next s.takeAlignBoundary

end Sys2Proof.Machine
end

