-- ==== Sys2Proof/Machine/Dispatch.lean ====
section
/-! DEFINITION. One arm for each command: the effect on everything but the queue. -/

namespace Sys2Proof.Machine

def exec (i : Instr) (s : State) : Host.Outcome State Fault Refusal :=
  match i with
  | .openSetup => Sys2Proof.Machine.execOpenSetup s
  | .closeSetup => Sys2Proof.Machine.execCloseSetup s
  | .beginAlign => Sys2Proof.Machine.execBeginAlign s
  | .stop => Sys2Proof.Machine.execStop s
  | .trip => Sys2Proof.Machine.execTrip s
  | .insert p v d => Sys2Proof.Machine.execInsert p v d s
  | .remove p => Sys2Proof.Machine.execRemove p s
  | .setVariant p v => Sys2Proof.Machine.execSetVariant p v s
  | .quarantine p => Sys2Proof.Machine.execQuarantine p s
  | .release p => Sys2Proof.Machine.execRelease p s
  | .rejectBlock p => Sys2Proof.Machine.execRejectBlock p s
  | .confirm k => Sys2Proof.Machine.execConfirm k s
  | .resolveIndex o => Sys2Proof.Machine.execResolveIndex o s
  | .hold => Sys2Proof.Machine.execHold s
  | .resume => Sys2Proof.Machine.execResume s
  | .releaseStation k => Sys2Proof.Machine.execReleaseStation k s
  | .index ov => Sys2Proof.Machine.execIndex ov s
  | .transferNone ov => Sys2Proof.Machine.execTransferNone ov s
  | .start k c => Sys2Proof.Machine.execStart k c s
  | .cycleStartNone k c => Sys2Proof.Machine.execCycleStartNone k c s
  | .tagGood r p x => Sys2Proof.Machine.execTagGood r p x s
  | .tagNoRead r p x => Sys2Proof.Machine.execTagNoRead r p x s
  | .gaugeDataWrite a w => Sys2Proof.Machine.execGaugeDataWrite a w s
  | .gaugeHeaderValid p => Sys2Proof.Machine.execGaugeHeaderValid p s
  | .gaugeHeaderProbeFail p => Sys2Proof.Machine.execGaugeHeaderProbeFail p s
  | .captureClearWrite l z w => Sys2Proof.Machine.execCaptureClearWrite l z w s
  | .viewSelectorWrite l z w => Sys2Proof.Machine.execViewSelectorWrite l z w s
  | .flagWordWrite l z w => Sys2Proof.Machine.execFlagWordWrite l z w s
  | .flagEnableWrite l z w => Sys2Proof.Machine.execFlagEnableWrite l z w s
  | .dropRecordClear l z w => Sys2Proof.Machine.execDropRecordClear l z w s
  | .configurationWrite o z w => Sys2Proof.Machine.execConfigurationWrite o z w s
  | .patchRuleWrite o z w => Sys2Proof.Machine.execPatchRuleWrite o z w s
  | .patchedWrite k n l z w => Sys2Proof.Machine.execPatchedWrite k n l z w s
  | .stationViewAccess k o a => Sys2Proof.Machine.execStationViewAccess k o a s
  | .rovingViewAccess o a => Sys2Proof.Machine.execRovingViewAccess o a s
  | .hostWriteOther a z w => Sys2Proof.Machine.execHostWriteOther a z w s
  | .transactionForward => Sys2Proof.Machine.execTransactionForward s
  | .imageResponseOk w => Sys2Proof.Machine.execImageResponseOk w s
  | .imageResponseError => Sys2Proof.Machine.execImageResponseError s
  | .imageResponseTimeout => Sys2Proof.Machine.execImageResponseTimeout s
  | .staleResponseDiscard => Sys2Proof.Machine.execStaleResponseDiscard s
  | .atRestFall => Sys2Proof.Machine.execAtRestFall s
  | .atRestRise => Sys2Proof.Machine.execAtRestRise s
  | .driveFaultRise => Sys2Proof.Machine.execDriveFaultRise s
  | .driveFaultFall => Sys2Proof.Machine.execDriveFaultFall s
  | .estopActive => Sys2Proof.Machine.execEstopActive s
  | .estopInactive => Sys2Proof.Machine.execEstopInactive s
  | .controllerResetAssert => Sys2Proof.Machine.execControllerResetAssert s
  | .controllerResetDeassert => Sys2Proof.Machine.execControllerResetDeassert s
  | .powerOnReset b => Sys2Proof.Machine.execPowerOnReset b s
  | .clearInputChange k l => Sys2Proof.Machine.execClearInputChange k l s
  | .presenceInputChange k l => Sys2Proof.Machine.execPresenceInputChange k l s
  | .filterSettle k f => Sys2Proof.Machine.execFilterSettle k f s
  | .timeBaseTick => Sys2Proof.Machine.execTimeBaseTick s
  | .indexSlowMark => Sys2Proof.Machine.execIndexSlowMark s
  | .indexLimitMark => Sys2Proof.Machine.execIndexLimitMark s
  | .ackMark k => Sys2Proof.Machine.execAckMark k s
  | .warnMark k => Sys2Proof.Machine.execWarnMark k s
  | .limitMark k => Sys2Proof.Machine.execLimitMark k s
  | .alignWindowExpiry => Sys2Proof.Machine.execAlignWindowExpiry s
  | .hostRead a z => Sys2Proof.Machine.execHostRead a z s

end Sys2Proof.Machine
end

