-- ==== Sys2Proof/Safety.lean ====
section
/-! DEFINITION. The words that claims use: what a host command puts on the bus, a transaction carried to the memory's OK, what is due at a tick, and the standing laws of the part (R12, R31, R44, R81, R105, R146, R177). -/

namespace Sys2Proof.Machine

/-- The controller port and the image port are free: no transaction in progress, no response owed. -/
abbrev State.portsFree (s : State) : Prop :=
  s.classifier.record = none ∧ s.classifier.stale = false

/-- A transaction as the host presents it: read or write, the bus address, the size, and the data of a write in the bytes of that size (R157). -/
structure BusAccess where
  kind : Kind
  address : Address
  size : Size
  data : Word
  deriving DecidableEq, Repr

/-- A host write at an offset of the line image. -/
def State.busWrite (s : State) (o : Offset) (size : Size) (data : Word) : BusAccess :=
  { kind := .write, address := s.addressOf o, size := size, data := data &&& size.mask }

/-- A host read at an offset of the line image. -/
def State.busRead (s : State) (o : Offset) (size : Size) : BusAccess :=
  { kind := .read, address := s.addressOf o, size := size, data := 0 }

/-- A host write of the gate command word, from its fields at their bits: the code from bit 0, the pallet from 8, the station from 16, the destination at 21, the variant from 24, the outcome from 28 (11, Words taken in). -/
def State.busCommand (s : State) (code : Nat) (pallet station dest variant outcome : Nat := 0) :
    BusAccess :=
  s.busWrite 0x30 .four
    (BitVec.ofNat 32
      (code + pallet * 0x100 + station * 0x10000 + dest * 0x200000 + variant * 0x1000000 +
        outcome * 0x10000000))

/-- A host access through a view. -/
def State.busAccess (s : State) (o : Offset) : Access → BusAccess
  | .read size => s.busRead o size
  | .write size data => s.busWrite o size data

/-- What each host command puts on the bus, written out from the offsets and layouts of 11; none of a command that is no transaction of the host. -/
def State.presents (s : State) : Instr → Option BusAccess
  | .openSetup => some (s.busCommand 1)
  | .closeSetup => some (s.busCommand 2)
  | .beginAlign => some (s.busCommand 3)
  | .stop => some (s.busCommand 4)
  | .trip => some (s.busCommand 5)
  | .insert p v .queue => some (s.busCommand 8 (pallet := p.val) (variant := v.val))
  | .insert p v (.station k) =>
    some (s.busCommand 8 (pallet := p.val) (station := k.val) (dest := 1) (variant := v.val))
  | .remove p => some (s.busCommand 9 (pallet := p.val))
  | .setVariant p v => some (s.busCommand 10 (pallet := p.val) (variant := v.val))
  | .quarantine p => some (s.busCommand 11 (pallet := p.val))
  | .release p => some (s.busCommand 12 (pallet := p.val))
  | .rejectBlock p => some (s.busCommand 13 (pallet := p.val))
  | .confirm k => some (s.busCommand 14 (station := k.val))
  | .resolveIndex o => some (s.busCommand 16 (outcome := o.val))
  | .hold => some (s.busCommand 20)
  | .resume => some (s.busCommand 21)
  | .releaseStation k => some (s.busCommand 22 (station := k.val))
  | .index override => some (s.busWrite 0x34 .four (if override then 0x101 else 1))
  | .transferNone override => some (s.busWrite 0x34 .four (if override then 0x100 else 0))
  | .start k casting =>
    some
      (s.busWrite (BitVec.ofNat 16 (0x2000 + k.val * 256)) .four (if casting then 0x101 else 1))
  | .cycleStartNone k casting =>
    some
      (s.busWrite (BitVec.ofNat 16 (0x2000 + k.val * 256)) .four (if casting then 0x100 else 0))
  | .tagGood r p x =>
    some (s.busWrite 0x38 .four (BitVec.ofNat 32 (r.val + p.val * 0x100 + x.val * 0x10000)))
  | .tagNoRead r p x =>
    some
      (s.busWrite 0x38 .four (BitVec.ofNat 32 (r.val + 0x10 + p.val * 0x100 + x.val * 0x10000)))
  | .gaugeDataWrite .x value => some (s.busWrite 0x44 .four value)
  | .gaugeDataWrite .y value => some (s.busWrite 0x48 .four value)
  | .gaugeDataWrite .z value => some (s.busWrite 0x4C .four value)
  | .gaugeHeaderValid p => some (s.busWrite 0x50 .four (BitVec.ofNat 32 p.val))
  | .gaugeHeaderProbeFail p => some (s.busWrite 0x50 .four (BitVec.ofNat 32 (p.val + 0x100)))
  | .captureClearWrite lane size data =>
    some (s.busWrite (BitVec.ofNat 16 (0x40 + lane.val)) size data)
  | .viewSelectorWrite lane size data =>
    some (s.busWrite (BitVec.ofNat 16 (0x3C + lane.val)) size data)
  | .flagWordWrite lane size data =>
    some (s.busWrite (BitVec.ofNat 16 (0x0C + lane.val)) size data)
  | .flagEnableWrite lane size data =>
    some (s.busWrite (BitVec.ofNat 16 (0x10 + lane.val)) size data)
  | .dropRecordClear lane size data =>
    some (s.busWrite (BitVec.ofNat 16 (0x20 + lane.val)) size data)
  | .configurationWrite o size data | .patchRuleWrite o size data =>
    some (s.busWrite o size data)
  | .patchedWrite k n lane size data =>
    some (s.busWrite (BitVec.ofNat 16 (0x2000 + k.val * 256 + n.val * 4 + lane.val)) size data)
  | .stationViewAccess k o access =>
    some (s.busAccess (BitVec.ofNat 16 (0x4000 + k.val * 256 + o.val)) access)
  | .rovingViewAccess o access => some (s.busAccess (BitVec.ofNat 16 (0x5C00 + o.val)) access)
  | .hostWriteOther a size data =>
    some { kind := .write, address := a, size := size, data := data &&& size.mask }
  | .hostRead a size => some { kind := .read, address := a, size := size, data := 0 }
  | .transactionForward | .imageResponseOk _ | .imageResponseError | .imageResponseTimeout
  | .staleResponseDiscard => none
  | .atRestFall | .atRestRise | .driveFaultRise | .driveFaultFall | .estopActive | .estopInactive
  | .controllerResetAssert | .controllerResetDeassert | .powerOnReset _ => none
  | .clearInputChange _ _ | .presenceInputChange _ _ | .filterSettle _ _ => none
  | .timeBaseTick | .indexSlowMark | .indexLimitMark | .ackMark _ | .warnMark _ | .limitMark _
  | .alignWindowExpiry => none

/-- The transaction as it stands ARRIVED when it is to go out as the host presented it: its own kind, address, size and data, to its own address with its own data (R157, R159). -/
def State.standing (s : State) (q : BusAccess) (treatment : Treatment) : Transaction :=
  { kind := q.kind, address := q.address, outside := !s.insideImage q.address, size := q.size
    data := q.data, treatment := treatment, target := q.address, sent := q.data
    decidedCause := none, stage := .arrived }

/-- The command arrives and its transaction `r` stands ARRIVED, with nothing else changed. Then, with nothing between, it is forwarded and answered OK by the memory, each of the three steps answering a next state, the last of them `t` (R159, R161, R162, R163). -/
def CarriedOut (i : Instr) (r : Transaction) (data : Word) (s t : State) : Prop :=
  exec i s = .next (s.holdRecord r) ∧
    ∃ forwarded, exec .transactionForward (s.holdRecord r) = .next forwarded ∧
      exec (.imageResponseOk data) forwarded = .next t

/-- The host command completes: what it presents is carried out as presented, neither redirected nor patched, and `t` is the state left. -/
def Completes (i : Instr) (data : Word) (s t : State) : Prop :=
  ∃ (q : BusAccess) (treatment : Treatment),
    s.presents i = some q ∧ treatment ≠ .redirect ∧ (∀ overflowed, treatment ≠ .patch overflowed) ∧
      CarriedOut i (s.standing q treatment) data s t

/-- The commands run one after the other, each answering a next state. -/
def Runs : List Instr → State → State → Prop
  | [], s, t => t = s
  | i :: rest, s, t => ∃ u, exec i s = .next u ∧ Runs rest u t

/-- The steps that take what can still be due from a tick boundary, in the order in which the next tick takes them (the model's order, log 3): the response limit, the filters station by station, the index timer, the budget units station by station, the align timer. -/
def dueSteps : List Instr :=
  [.imageResponseTimeout] ++
    (allStations.flatMap fun k => [.filterSettle k .clear, .filterSettle k .presence]) ++
    [.indexSlowMark, .indexLimitMark] ++
    (allStations.flatMap fun k => [.ackMark k, .warnMark k, .limitMark k]) ++
    [.alignWindowExpiry]

/-- The place that an image error or a stale-port refusal reports (R159, R163, R190): of a station command window or a station view below STATION_COUNT that station and the pallet of its entry, or none, as they stand (log 13), of the roving view those of the station its selector names (log 14), none elsewhere and outside the line image. -/
def State.portPlace (s : State) (outside : Bool) (offset : Offset) : Place :=
  let o := offset.toNat
  let ofStation (k : Nat) : Place :=
    if h : k < s.stationCount ∧ k < 28 then
      ⟨some ⟨k, by omega⟩, (s.entry ⟨k, h.2⟩).pallet⟩
    else .none
  if outside then .none
  else if 0x2000 ≤ o ∧ o < 0x3C00 then ofStation ((o - 0x2000) / 256)
  else if 0x4000 ≤ o ∧ o < 0x5C00 then ofStation ((o - 0x4000) / 256)
  else if 0x5C00 ≤ o ∧ o < 0x5D00 then ofStation s.classifier.selector.toNat
  else .none

/-- The command is a host transaction that arrives at the controller port. -/
def hostCommand : Instr → Bool
  | .transactionForward | .imageResponseOk _ | .imageResponseError | .imageResponseTimeout
  | .staleResponseDiscard => false
  | .atRestFall | .atRestRise | .driveFaultRise | .driveFaultFall | .estopActive | .estopInactive
  | .controllerResetAssert | .controllerResetDeassert | .powerOnReset _ => false
  | .clearInputChange _ _ | .presenceInputChange _ _ | .filterSettle _ _ => false
  | .timeBaseTick | .indexSlowMark | .indexLimitMark | .ackMark _ | .warnMark _ | .limitMark _
  | .alignWindowExpiry => false
  | _ => true

/-- The controller port after the answer to a transaction that had been forwarded: no transaction in progress, the response timer stopped at 0. -/
def State.answered (r : Reply) (s : State) : State :=
  { s with classifier :=
    { s.classifier with record := none, timer := { count := 0, running := false }, reply := r } }

/-- A host write inside the line image answered ERROR as it arrives, with its report (R159, R190, R191). -/
def State.refusedWrite (offset : Offset) (cause : Cause) (place : Place) (s : State) : State :=
  s.refuse .write false offset cause place

/-- A host read inside the line image answered ERROR as it arrives, with its report. -/
def State.refusedRead (offset : Offset) (cause : Cause) (place : Place) (s : State) : State :=
  s.refuse .read false offset cause place

/-- The offset of the gate command word (11). -/
def commandWord : Offset := 0x30

/-- What R14 makes of a pallet command before its own checks: the refusal of the first of checks 1 to 3 that fails, else `next`. -/
def State.palletOrder (s : State) (i : Instr) (allowed : List LineState) (place : Place)
    (next : Prop) : Prop :=
  if s.gate.state = .indexing then exec i s = .next (s.refusedWrite commandWord .indexInFlight place)
  else if s.gate.frozen = true then
    exec i s = .next (s.refusedWrite commandWord .resolvePending place)
  else if s.line.state ∉ allowed then
    exec i s = .next (s.refusedWrite commandWord .notInState place)
  else next

/-- The lowest station of which a test holds. -/
abbrev Lowest (k : StationNo) (p : StationNo → Prop) : Prop := p k ∧ ∀ j : StationNo, j < k → ¬p j

/-- A filter has a boundary not yet taken. -/
def FilterState.isDue : FilterState → Bool
  | .idle => false
  | .pending _ _ due => due

/-- Nothing is due from the last tick boundary. -/
abbrev State.nothingDue (s : State) : Prop :=
  s.responseOverdue = false ∧ s.gate.timer.due = false ∧ s.identity.timer.due = false ∧
    ∀ k, (s.station k).budgetDue = false ∧ (s.station k).clear.filter.isDue = false ∧
      (s.station k).presence.filter.isDue = false

/-- A transaction stands forwarded and no earlier response is owed. -/
abbrev State.awaits (s : State) (t : Transaction) : Prop :=
  s.classifier.record = some t ∧ t.stage = .forwarded ∧ s.classifier.stale = false

/-- The gate and the outputs agree with the line state: the permit and the index timer follow the index state, an index is in flight only in PRODUCING and RESTRICTED, STOP_PENDING and motion-seen stand only during one, FROZEN_MID_INDEX only in TRIPPED and SETUP, every enable output follows R81, and the align timer runs exactly in ALIGNING (R31, R41, R51, R81, R91, R121). -/
structure GateLaw (s : State) : Prop where
  permit : s.gate.permit = s.indexing
  timer : s.gate.timer.running = s.indexing
  timerDue : s.gate.timer.due = true → s.gate.timer.running = true
  motion : s.gate.motionSeen = true → s.indexing = true
  inFlight : s.indexing = true → s.line.state = .producing ∨ s.line.state = .restricted
  stopping : s.line.stopPending = true → s.indexing = true
  frozen : s.gate.frozen = true → s.line.state = .tripped ∨ s.line.state = .setup
  enables : ∀ k, (s.station k).enable = s.enablePermitted k
  alignTimer : s.identity.timer.running = true ↔ s.line.state = .aligning

/-- The line parameters lie in their ranges (R177), the marks, codes and ratios in theirs (R178, R179), and no two enabled rules name one word (R146). -/
structure ConfigLaw (s : State) : Prop where
  stationCount : 3 ≤ s.config.params.stationCount.val
  returnCap : 1 ≤ s.config.params.returnCap ∧ s.config.params.returnCap ≤ 36
  variantCount : 1 ≤ s.config.params.variantCount.val
  filterMs : s.config.params.filterMs ≤ 15
  indexSlow : 1 ≤ s.config.params.indexSlow ∧ s.config.params.indexSlow ≤ 65535
  indexLimit : 1 ≤ s.config.params.indexLimit ∧ s.config.params.indexLimit ≤ 65535
  failRestrict : 1 ≤ s.config.params.failRestrict ∧ s.config.params.failRestrict ≤ 15
  failHalt : 1 ≤ s.config.params.failHalt ∧ s.config.params.failHalt ≤ 15
  recoverCycles : 1 ≤ s.config.params.recoverCycles ∧ s.config.params.recoverCycles ≤ 31
  alignAttempts : 1 ≤ s.config.params.alignAttempts ∧ s.config.params.alignAttempts ≤ 31
  alignWindow : 1 ≤ s.config.params.alignWindow ∧ s.config.params.alignWindow ≤ 65535
  ungaugedLimit : 1 ≤ s.config.params.ungaugedLimit ∧ s.config.params.ungaugedLimit ≤ 15
  maxStep : 1 ≤ s.config.params.maxStep ∧ s.config.params.maxStep ≤ 2000
  offsetLimit : 1 ≤ s.config.params.offsetLimit ∧ s.config.params.offsetLimit ≤ 50000
  marks : ∀ k, (1 ≤ (s.descriptor k).ack ∧ (s.descriptor k).ack ≤ 65535) ∧
    (1 ≤ (s.descriptor k).warn ∧ (s.descriptor k).warn ≤ 65535) ∧
    (1 ≤ (s.descriptor k).limit ∧ (s.descriptor k).limit ≤ 65535)
  codes : ∀ v, (s.variantEntry v).code ≤ 65535
  ratios : ∀ v, 1 ≤ (s.variantEntry v).ratio ∧ (s.variantEntry v).ratio ≤ 250
  ruleWords : ∀ r, 1 ≤ (s.rule r).word.val
  rulesApart : ∀ i j : Fin 24, i ≠ j → (s.rule i).enabled = true → (s.rule j).enabled = true →
    ¬((s.rule i).station = (s.rule j).station ∧ (s.rule i).word = (s.rule j).word)

/-- The pallet numbers that stand on the map, station by station. -/
def State.mapPallets (s : State) : List PalletNo :=
  allStations.filterMap fun k => (s.entry k).pallet

/-- Every place of the account, the map before the queue. -/
def State.placed (s : State) : List PalletNo := s.mapPallets ++ s.tracking.queue

/-- The three laws of the pallet account (R12), with what keeps them: positions beyond the line hold none CONFIRMED (R8), every variant is one the line knows (R4), every offset is within OFFSET_LIMIT (R135), and an index in flight has room for the pallet it will take off (R28). -/
structure AccountLaw (s : State) : Prop where
  once : s.placed.Nodup
  placedInService : ∀ p, p ∈ s.placed ↔ (s.pallet p).service ≠ .out
  queueRoom : s.tracking.queue.length ≤ s.config.params.returnCap
  queueInService : ∀ p, p ∈ s.tracking.queue → (s.pallet p).service ≠ .quarantine
  beyond : ∀ k, s.inLine k = false → s.entry k = .vacant
  variants : ∀ p, (s.pallet p).variant.val < s.config.params.variantCount.val
  offsets : ∀ p, (s.pallet p).offset.any (offsetClamped s.config.params.offsetLimit) = false
  room : s.indexing = true → s.exitHasRoom = true

/-- The bounds of the counts (R105, R126) and of the running index timer (R46), with the counts 0 in SETUP (R87). -/
structure CountLaw (s : State) : Prop where
  failed : s.line.failed ≤ s.config.params.failHalt
  clean : s.line.clean < s.config.params.recoverCycles
  setup : s.line.state = .setup → s.line.failed = 0 ∧ s.line.clean = 0
  attempts : s.identity.remaining ≤ s.config.params.alignAttempts
  timer : s.gate.timer.running = true → s.gate.timer.count < s.config.params.indexLimit

/-- While an index is in flight no station of the line is engaged, and no START waits to engage one (R44). -/
structure EngagementLaw (s : State) : Prop where
  free : s.indexing = true → ∀ k, s.inLine k = true → (s.station k).engagement = none
  noStart : ∀ t k casting, s.classifier.record = some t → t.treatment = .cycleStart k casting →
    s.indexing = false

end Sys2Proof.Machine
end

