-- ==== Sys2Proof/Certificates/Slice0/Obligations.lean ====
section
/-! DEFINITION. The statements for the provers, in the words of the rules of spec/. A host command is stated from a free controller port; `Completes` is its arrival, its forwarding as the host presented it, and its OK response, one after the other (AnsweredOk says what the OK does when other events came between). Three things that stand in these statements are the model's own and no rule's: the reply field (log 12), the count of a stopped response timer (log 25) and the due bits (log 3). -/

open Sys2Proof Sys2Proof.Machine

/-! ### The step -/

/-- The command at the front of the queue is what a step runs; on an empty queue the block idles (the model's choice, log 2). -/
def Obligations.StepRunsFront : Prop :=
  (∀ (c : Instr) (rest : List Instr) (s : State),
    step (s.withPending (c :: rest)) = exec c (s.withPending rest)) ∧
  ∀ s : State, s.pending = [] → step s = .next s

/-- No command touches the queue of waiting commands, which is the model's own (logs 2 and 22); POWER_ON_RESET keeps it too, by the model's choice (log 11). A host command waits in it until the port has answered the one before (R161). -/
def Obligations.QueueUntouched : Prop :=
  ∀ (c : Instr) (s t : State), exec c s = .next t → t.pending = s.pending

/-- A refusal writes the report whole, counts, sets REFUSED and, where REFUSED stood, REPORT_OVERRUN, answers ERROR and changes nothing else (R159, R190, R191). -/
def Obligations.RefusalRecorded : Prop :=
  ∀ (s : State) (kind : Kind) (outside : Bool) (offset : Offset) (cause : Cause) (place : Place),
    let t := s.refuse kind outside offset cause place
    t.flagUnit.report =
        { cause := cause, kind := kind, outside := outside, offset := offset,
          station := place.station, pallet := place.pallet, cycle := s.line.cycle } ∧
      t.flagUnit.refusals =
        (if s.flagUnit.refusals < 65535 then s.flagUnit.refusals + 1 else s.flagUnit.refusals) ∧
      t.hasFlag .refused = true ∧
      t.hasFlag .reportOverrun = (s.hasFlag .reportOverrun || s.hasFlag .refused) ∧
      (∀ f, f ≠ .refused → f ≠ .reportOverrun → t.hasFlag f = s.hasFlag f) ∧
      t.flagUnit.enables = s.flagUnit.enables ∧
      t.classifier =
        { s.classifier with
          record := none, timer := { s.classifier.timer with running := false },
          reply := .error } ∧
      t = { s with classifier := t.classifier, flagUnit := t.flagUnit }

/-- The interrupt output is asserted exactly while a set flag has its enable set (R189). -/
def Obligations.InterruptFollows : Prop :=
  ∀ s : State,
    s.interrupt = true ↔ ∃ f : Flag, s.hasFlag f = true ∧ s.flagUnit.enables.getLsbD f.bit = true

/-! ### Line states -/

/-- Entry to a line state: STATE_CHANGE on a change (R99), STOP_PENDING cleared by STOPPED, TRIPPED and SETUP (R91, R99), and every enable by R81. -/
def Obligations.LineEntered : Prop :=
  ∀ (s : State) (l : LineState),
    s.enterLine l =
      { s with
        line :=
          { s.line with
            state := l
            stopPending :=
              if l = .stopped ∨ l = .tripped ∨ l = .setup then false else s.line.stopPending }
        monitor :=
          { s.monitor with
            stations := Vector.ofFn fun k =>
              { s.station k with
                enable :=
                  s.inLine k && decide (l ≠ .setup ∧ l ≠ .tripped ∧ s.gate.state = .idle) } }
        flagUnit := if s.line.state = l then s.flagUnit else (s.raise .stateChange).flagUnit }

/-- A trip claim is not taken in SETUP and TRIPPED; taken, it records its cause, abandons an index in flight, ends an alignment attempt, deasserts every enable and stops the units (R50, R77, R93, R94, R125). -/
def Obligations.TripClaimed : Prop :=
  ∀ (s : State) (cause : TripCause),
    s.trip cause =
      if s.line.state = .setup ∨ s.line.state = .tripped then s
      else
        { s with
          line := { s.line with state := .tripped, tripCause := cause, stopPending := false }
          gate :=
            if s.gate.state = .indexing then
              { s.gate with
                state := .idle, motionSeen := false, permit := false, frozen := true
                timer := { s.gate.timer with running := false, due := false } }
            else s.gate
          identity :=
            if s.line.state = .aligning then
              { s.identity with timer := { s.identity.timer with running := false, due := false } }
            else s.identity
          monitor :=
            { s.monitor with
              stations := Vector.ofFn fun k =>
                { s.station k with enable := false, budgetDue := false } }
          flagUnit := (s.raise .stateChange).flagUnit }

/-- OPEN_SETUP: taken from PREPARED, STOPPED and TRIPPED, with the counts, engagements, units, indications and HELD cleared; refused NOT_IN_STATE elsewhere (R78, R86, R87). -/
def Obligations.OpenSetup : Prop :=
  ∀ (s : State) (d : Word), s.portsFree →
    if s.line.state = .prepared ∨ s.line.state = .stopped ∨ s.line.state = .tripped then
      Completes .openSetup d s
        { s.answered .ok with
          line := { s.line with state := .setup, stopPending := false, failed := 0, clean := 0 }
          monitor :=
            { held := false
              stations := Vector.ofFn fun k =>
                { s.station k with
                  engagement := none, budget := 0, budgetDue := false, warn := false,
                  noAck := false, limit := false, enable := false } }
          flagUnit := (s.raise .stateChange).flagUnit }
    else exec .openSetup s = .next (s.refusedWrite commandWord .notInState .none)

/-- CLOSE_SETUP: from SETUP with FROZEN_MID_INDEX clear and the cross-checks passed, the line enters PREPARED; else it is refused with the first cause, BAD_CONFIG naming the lowest failing station (R86, R88, R185). -/
def Obligations.CloseSetup : Prop :=
  ∀ (s : State) (d : Word), s.portsFree →
    if s.line.state ≠ .setup then
      exec .closeSetup s = .next (s.refusedWrite commandWord .notInState .none)
    else if s.gate.frozen = true then
      exec .closeSetup s = .next (s.refusedWrite commandWord .resolvePending .none)
    else if s.crossChecksPass = true then
      Completes .closeSetup d s ((s.answered .ok).enterLine .prepared)
    else
      (∀ k, Lowest k (fun j => s.positionFails j = true) →
        exec .closeSetup s =
          .next (s.refusedWrite commandWord .badConfig ⟨some (StationNo.wide k), none⟩)) ∧
      ((∀ k, s.positionFails k = false) →
        exec .closeSetup s = .next (s.refusedWrite commandWord .badConfig .none))

/-- The cross-checks of CLOSE_SETUP pass exactly when the eleven conditions of R184 hold, and the positions that fail one are those R184 names: for checks 1 to 8 stations of the line, for check 11 a position beyond it that an enabled rule names. CloseSetup reports the lowest of them (R185). -/
def Obligations.CrossChecks : Prop :=
  ∀ s : State, 3 ≤ s.stationCount →
    (s.crossChecksPass = true ↔
      (s.descriptor 0).role = .load ∧
      (∀ k, s.inLine k = true → k ≠ 0 → (s.descriptor k).role ≠ .load) ∧
      (s.descriptor s.unloadStation).role = .unload ∧
      (∀ k, s.inLine k = true → k ≠ s.unloadStation → (s.descriptor k).role ≠ .unload) ∧
      (∀ j k, s.inLine j = true → s.inLine k = true → (s.descriptor j).role = .gauge →
        (s.descriptor k).role = .gauge → j = k) ∧
      (s.descriptor 0).reader = some 0 ∧
      (∀ j k, s.inLine j = true → s.inLine k = true → (s.descriptor j).reader.isSome = true →
        (s.descriptor j).reader = (s.descriptor k).reader → j = k) ∧
      (∀ k, s.inLine k = true →
        (s.descriptor k).ack < (s.descriptor k).limit ∧
          (s.descriptor k).warn ≤ (s.descriptor k).limit) ∧
      s.config.params.indexSlow < s.config.params.indexLimit ∧
      s.config.params.failRestrict ≤ s.config.params.failHalt ∧
      ∀ r, (s.rule r).enabled = true → s.inLine (s.rule r).station = true) ∧
    ∀ k : StationNo,
      let d := s.descriptor k
      (s.positionFails k = true ↔
        if k.val < s.stationCount then
          (k = 0 ∧ d.role ≠ .load) ∨ (k ≠ 0 ∧ d.role = .load) ∨
          (k.val = s.stationCount - 1 ∧ d.role ≠ .unload) ∨
          (k.val ≠ s.stationCount - 1 ∧ d.role = .unload) ∨
          (d.role = .gauge ∧ ∃ j, j < k ∧ (s.descriptor j).role = .gauge) ∨
          (k = 0 ∧ d.reader ≠ some 0) ∨
          (d.reader ≠ none ∧ ∃ j, j < k ∧ (s.descriptor j).reader = d.reader) ∨
          d.limit ≤ d.ack ∨ d.limit < d.warn
        else ∃ r, (s.rule r).enabled = true ∧ (s.rule r).station = k)

/-- BEGIN_ALIGN: the attempts and indications set anew; PRODUCING where no reader-station entry holds a pallet or all that do are CONFIRMED, else ALIGNING with the first attempt's timer from 0 (R86, R89, R98, R120, R121, R122). -/
def Obligations.BeginAlign : Prop :=
  ∀ (s : State) (d : Word), s.portsFree →
    let fresh : State :=
      { s.answered .ok with
        identity :=
          { s.identity with
            remaining := s.config.params.alignAttempts, corrected := false, aborted := false } }
    let producing (f : State) : State :=
      { f with line := { f.line with failed := 0, clean := 0 } }.enterLine .producing
    if s.line.state ≠ .prepared ∧ s.line.state ≠ .stopped then
      exec .beginAlign s = .next (s.refusedWrite commandWord .notInState .none)
    else if s.pins.estop = true then
      exec .beginAlign s = .next (s.refusedWrite commandWord .estopActive .none)
    else
      ((∀ k, s.isReaderStation k = true → (s.entry k).pallet = none) →
        Completes .beginAlign d s (producing fresh)) ∧
      ((∃ k, s.isReaderStation k = true ∧ (s.entry k).pallet ≠ none ∧
          (s.entry k).status ≠ .confirmed) →
        Completes .beginAlign d s
          { fresh.enterLine .aligning with
            identity :=
              { fresh.identity with timer := { count := 0, running := true, due := false } } }) ∧
      ((∃ k, s.isReaderStation k = true ∧ (s.entry k).pallet ≠ none) →
        (∀ k, s.isReaderStation k = true → (s.entry k).pallet ≠ none →
          (s.entry k).status = .confirmed) →
        Completes .beginAlign d s
          (producing
            { fresh with
              identity :=
                { fresh.identity with timer := { count := 0, running := false, due := false } } }))

/-- STOP by the line state and the index state, and TRIP: a trip with cause TRIP_COMMAND, nothing in TRIPPED; each refused NOT_IN_STATE where R86 says No (R86, R90, R91, R92). -/
def Obligations.StopAndTrip : Prop :=
  ∀ (s : State) (d : Word), s.portsFree →
    (match s.line.state with
      | .aligning =>
        Completes .stop d s
          ({ s.answered .ok with
            identity :=
              { s.identity with
                timer := { s.identity.timer with running := false, due := false } } }.enterLine
            .stopped)
      | .producing | .restricted =>
        if s.gate.state = .indexing then
          Completes .stop d s
            { s.answered .ok with line := { s.line with stopPending := true } }
        else Completes .stop d s ((s.answered .ok).enterLine .stopped)
      | .stopped => Completes .stop d s (s.answered .ok)
      | .setup | .prepared | .tripped =>
        exec .stop s = .next (s.refusedWrite commandWord .notInState .none)) ∧
    (match s.line.state with
      | .setup => exec .trip s = .next (s.refusedWrite commandWord .notInState .none)
      | .tripped => Completes .trip d s (s.answered .ok)
      | .prepared | .aligning | .producing | .restricted | .stopped =>
        Completes .trip d s ((s.answered .ok).trip .tripCommand))

/-! ### Holding the line -/

/-- HOLD sets HELD and stops every unit with its count kept, RESUME clears HELD, and neither touches anything else; each is refused NOT_IN_STATE outside its states (R72, R73). RELEASE_STATION ends an engagement whose limit indication is set and leaves unit, indications and capture; its refusals in order, with the place R74 gives (a station of 28 to 31 has none: the model's reading, log 16). -/
def Obligations.HoldResumeAndRelease : Prop :=
  (∀ (s : State) (d : Word), s.portsFree →
    (if s.line.state = .producing ∨ s.line.state = .restricted ∨ s.line.state = .stopped then
      Completes .hold d s
        { s.answered .ok with
          monitor :=
            { held := true
              stations := Vector.ofFn fun k => { s.station k with budgetDue := false } } }
    else exec .hold s = .next (s.refusedWrite commandWord .notInState .none)) ∧
    (if s.line.state = .aligning ∨ s.line.state = .producing ∨ s.line.state = .restricted ∨
        s.line.state = .stopped then
      Completes .resume d s { s.answered .ok with monitor := { s.monitor with held := false } }
    else exec .resume s = .next (s.refusedWrite commandWord .notInState .none))) ∧
  ∀ (s : State) (k : Fin 32) (d : Word), s.portsFree →
    let refused (cause : Cause) : Prop :=
      exec (.releaseStation k) s =
        .next
          (s.refusedWrite commandWord cause
            (if h : k.val < 28 then ⟨some k, (s.entry ⟨k.val, h⟩).pallet⟩ else .none))
    if s.line.state ≠ .aligning ∧ s.line.state ≠ .producing ∧ s.line.state ≠ .restricted ∧
        s.line.state ≠ .stopped then
      refused .notInState
    else if h : k.val < s.stationCount ∧ k.val < 28 then
      let j : StationNo := ⟨k.val, h.2⟩
      if (s.station j).engagement ≠ none ∧ (s.station j).limit = true then
        Completes (.releaseStation k) d s
          ((s.answered .ok).setStation j
            { s.station j with engagement := none, budgetDue := false })
      else refused .stationState
    else refused .badArgument

/-! ### Pallet commands -/

/-- INSERT: after R14's order, a variant or station the line does not know is BAD_ARGUMENT, a pallet not OUT is PALLET_STATE, a full destination is LOCATION; taken, the record is set anew but for laps and the pallet joins the queue tail or takes the entry PREDICTED (R14, R15, R16; a station of 28 to 31 is reported as written, the model's reading, log 16). -/
def Obligations.Insert : Prop :=
  ∀ (s : State) (p : PalletNo) (v : Fin 8) (d : Word), s.portsFree →
    let record (w : Fin 6) : Pallet :=
      { service := .inService, variant := w, block := .empty, offset := ⟨0, 0, 0⟩, ungauged := 0,
        laps := (s.pallet p).laps, lost := false, gauged := false }
    (let i : Instr := .insert p v .queue
      let place : Place := ⟨none, some p⟩
      s.palletOrder i [.setup, .producing, .restricted, .stopped] place
        (if h : v.val < s.config.params.variantCount.val then
          if (s.pallet p).service ≠ .out then
            exec i s = .next (s.refusedWrite commandWord .palletState place)
          else if s.tracking.queue.length < s.config.params.returnCap then
            Completes i d s
              (((s.answered .ok).setPallet p (record ⟨v.val, by omega⟩)).setQueue
                (s.tracking.queue ++ [p]))
          else exec i s = .next (s.refusedWrite commandWord .location place)
        else exec i s = .next (s.refusedWrite commandWord .badArgument place))) ∧
    ∀ k : Fin 32,
      let i : Instr := .insert p v (.station k)
      let place : Place := ⟨some k, some p⟩
      s.palletOrder i [.setup] place
        (if h : v.val < s.config.params.variantCount.val ∧ k.val < s.stationCount ∧ k.val < 28 then
          let j : StationNo := ⟨k.val, h.2.2⟩
          if (s.pallet p).service ≠ .out then
            exec i s = .next (s.refusedWrite commandWord .palletState place)
          else if (s.entry j).pallet = none then
            Completes i d s
              (((s.answered .ok).setPallet p (record ⟨v.val, by omega⟩)).setEntry j
                { pallet := some p, status := .predicted })
          else exec i s = .next (s.refusedWrite commandWord .location place)
        else exec i s = .next (s.refusedWrite commandWord .badArgument place))

/-- REMOVE: from its entry, which becomes none CONFIRMED, in SETUP alone; from the queue, which closes up; LOCATION where the pallet stands nowhere or on the map outside SETUP. The record keeps every field but the service state, OUT (R14, R17). -/
def Obligations.Remove : Prop :=
  ∀ (s : State) (p : PalletNo) (d : Word), s.portsFree →
    let place : Place := ⟨none, some p⟩
    let gone : Pallet := { s.pallet p with service := .out }
    s.palletOrder (.remove p) [.setup, .producing, .restricted, .stopped] place
      ((∀ k, Lowest k (fun j => s.inLine j = true ∧ (s.entry j).pallet = some p) →
          if s.line.state = .setup then
            Completes (.remove p) d s
              (((s.answered .ok).setEntry k { pallet := none, status := .confirmed }).setPallet p
                gone)
          else exec (.remove p) s = .next (s.refusedWrite commandWord .location place)) ∧
        ((∀ k, s.inLine k = true → (s.entry k).pallet ≠ some p) →
          if p ∈ s.tracking.queue then
            Completes (.remove p) d s
              (((s.answered .ok).setQueue (s.tracking.queue.erase p)).setPallet p gone)
          else exec (.remove p) s = .next (s.refusedWrite commandWord .location place)))

/-- SET_VARIANT writes the variant alone, of an empty pallet in service; REJECT_BLOCK makes IN_WORK a REJECT, whatever the service state, and changes no other field (R14, R18, R21). -/
def Obligations.SetVariantAndRejectBlock : Prop :=
  ∀ (s : State) (p : PalletNo) (v : Fin 8) (d : Word), s.portsFree →
    let place : Place := ⟨none, some p⟩
    let states : List LineState :=
      [.setup, .prepared, .aligning, .producing, .restricted, .stopped]
    s.palletOrder (.setVariant p v) states place
      (if h : v.val < s.config.params.variantCount.val then
        if (s.pallet p).service = .inService ∧ (s.pallet p).block = .empty then
          Completes (.setVariant p v) d s
            ((s.answered .ok).setPallet p { s.pallet p with variant := ⟨v.val, by omega⟩ })
        else exec (.setVariant p v) s = .next (s.refusedWrite commandWord .blockState place)
      else exec (.setVariant p v) s = .next (s.refusedWrite commandWord .badArgument place)) ∧
    s.palletOrder (.rejectBlock p) states place
      (if (s.pallet p).block = .inWork then
        Completes (.rejectBlock p) d s
          ((s.answered .ok).setPallet p { s.pallet p with block := .reject })
      else exec (.rejectBlock p) s = .next (s.refusedWrite commandWord .blockState place))

/-- QUARANTINE makes a pallet of the map QUARANTINE where it stands and takes a queued one OUT; RELEASE returns a QUARANTINE pallet of the map to service; each is refused PALLET_STATE on any other service state (R14, R19, R20). -/
def Obligations.QuarantineAndRelease : Prop :=
  ∀ (s : State) (p : PalletNo) (d : Word), s.portsFree →
    let place : Place := ⟨none, some p⟩
    let states : List LineState :=
      [.setup, .prepared, .aligning, .producing, .restricted, .stopped]
    let becomes (v : Service) : Pallet := { s.pallet p with service := v }
    s.palletOrder (.quarantine p) states place
      (if (s.pallet p).service ≠ .inService then
        exec (.quarantine p) s = .next (s.refusedWrite commandWord .palletState place)
      else if p ∈ s.tracking.queue then
        Completes (.quarantine p) d s
          (((s.answered .ok).setQueue (s.tracking.queue.erase p)).setPallet p (becomes .out))
      else
        Completes (.quarantine p) d s ((s.answered .ok).setPallet p (becomes .quarantine))) ∧
    s.palletOrder (.release p) states place
      (if (s.pallet p).service = .quarantine ∧
          ∃ k, s.inLine k = true ∧ (s.entry k).pallet = some p then
        Completes (.release p) d s ((s.answered .ok).setPallet p (becomes .inService))
      else exec (.release p) s = .next (s.refusedWrite commandWord .palletState place))

/-- CONFIRM sets the status of the station's entry to CONFIRMED, whatever it holds, and leaves the pallet part; BAD_ARGUMENT for a station not below STATION_COUNT, after R14's order (R14, R22; the report of 28 to 31 is the model's reading, log 16). -/
def Obligations.Confirm : Prop :=
  ∀ (s : State) (k : Fin 32) (d : Word), s.portsFree →
    s.palletOrder (.confirm k) [.setup, .producing, .restricted, .stopped] ⟨some k, none⟩
      (if h : k.val < s.stationCount ∧ k.val < 28 then
        let j : StationNo := ⟨k.val, h.2⟩
        Completes (.confirm k) d s
          ((s.answered .ok).setEntry j { s.entry j with status := .confirmed })
      else
        exec (.confirm k) s = .next (s.refusedWrite commandWord .badArgument ⟨some k, none⟩))

/-! ### Resolution, the map shift and the ungauged accounting -/

/-- RESOLVE_INDEX with outcome NOT_MOVED clears FROZEN_MID_INDEX and leaves everything else; with an outcome of neither kind it is refused BAD_ARGUMENT, and outside SETUP or with nothing to resolve NOT_IN_STATE (R52, R54). -/
def Obligations.ResolveNotMoved : Prop :=
  ∀ (s : State) (o : Fin 4) (d : Word), s.portsFree →
    if s.line.state ≠ .setup ∨ s.gate.frozen = false then
      exec (.resolveIndex o) s = .next (s.refusedWrite commandWord .notInState .none)
    else if o = 0 ∨ o = 3 then
      exec (.resolveIndex o) s = .next (s.refusedWrite commandWord .badArgument .none)
    else if o = 2 then
      Completes (.resolveIndex o) d s
        { s.answered .ok with gate := { s.gate with frozen := false } }
    else True

/-- RESOLVE_INDEX with outcome COMPLETE makes the map shift and the ungauged accounting, advances the cycle number and clears FROZEN_MID_INDEX, with no presence check, no evaluation and no capture; without room for the pallet leaving the line it is refused RETURN_FULL with its place (R52, R53, R139). -/
def Obligations.ResolveComplete : Prop :=
  ∀ (s : State) (d : Word), s.portsFree → s.line.state = .setup → s.gate.frozen = true →
    if ∃ u, (s.entry s.unloadStation).pallet = some u ∧ (s.pallet u).service = .inService ∧
        s.config.params.returnCap ≤ s.tracking.queue.length then
      exec (.resolveIndex 1) s =
        .next
          (s.refusedWrite commandWord .returnFull
            ⟨some (StationNo.wide s.unloadStation), (s.entry s.unloadStation).pallet⟩)
    else
      let shifted := (s.answered .ok).mapShift.ungaugedAccounting s.gaugedPallet
      Completes (.resolveIndex 1) d s
        { shifted with
          line := { shifted.line with cycle := shifted.line.cycle + 1 }
          gate := { s.gate with frozen := false } }

/-- The map shift. The unload exit first: laps, a block not EMPTY becomes REJECT with UNLOAD_MISSED, QUARANTINE becomes OUT, IN_SERVICE joins the queue tail. Then every entry moves one station on, UNCERTAIN staying so and any other status becoming PREDICTED, and station 0 takes the queue head. Nothing else changes (R26, R27). -/
def Obligations.MapShifted : Prop :=
  ∀ s : State, 3 ≤ s.stationCount →
    let left := (s.entry s.unloadStation).pallet
    let exits (p : PalletNo) : Pallet :=
      let r := s.pallet p
      { r with
        laps := if r.laps < 65535 then r.laps + 1 else r.laps
        block := if r.block = .empty then .empty else .reject
        service := if r.service = .quarantine then .out else r.service }
    let queue : List PalletNo :=
      match left with
      | some u => if (s.pallet u).service = .inService then s.tracking.queue ++ [u]
        else s.tracking.queue
      | none => s.tracking.queue
    s.mapShift.tracking =
        { map := Vector.ofFn fun k =>
            if k.val = 0 then { pallet := queue.head?, status := .predicted }
            else if s.inLine k then
              let before := s.entry ⟨k.val - 1, by omega⟩
              { pallet := before.pallet
                status := if before.status = .uncertain then .uncertain else .predicted }
            else s.entry k
          pallets := Vector.ofFn fun p => if left = some p then exits p else s.pallet p
          queue := queue.tail } ∧
      s.mapShift =
        { s with
          tracking := s.mapShift.tracking
          line :=
            (s.addFaultIf
              (match left with | some u => (s.pallet u).block != .empty | none => false)
              .unloadMissed).line }

/-- The ungauged accounting: a leaving pallet not gauged this pass counts one more, stopping at 15, and at UNGAUGED_LIMIT is claimed for quarantine with QUARANTINED; an arriving pallet has gauged this pass cleared; nothing else changes (R138, R140). -/
def Obligations.UngaugedCounted : Prop :=
  ∀ (s : State) (leaving : Option PalletNo),
    (∀ p, leaving = some p → s.gaugedPallet ≠ some p ∧ p ∉ s.tracking.queue) →
      let count (p : PalletNo) : Nat :=
        if (s.pallet p).ungauged < 15 then (s.pallet p).ungauged + 1 else (s.pallet p).ungauged
      let claimed (p : PalletNo) : Prop :=
        (s.pallet p).gauged = false ∧ s.config.params.ungaugedLimit ≤ count p
      let t := s.ungaugedAccounting leaving
      (∀ p, t.pallet p =
        if leaving = some p ∧ (s.pallet p).gauged = false then
          { s.pallet p with
            ungauged := count p
            service :=
              if s.config.params.ungaugedLimit ≤ count p ∧ (s.pallet p).service = .inService then
                .quarantine
              else (s.pallet p).service }
        else if s.gaugedPallet = some p then { s.pallet p with gauged := false }
        else s.pallet p) ∧
      ((∃ p, leaving = some p ∧ claimed p) → t.flagUnit = (s.raise .quarantined).flagUnit) ∧
      ((∀ p, leaving = some p → ¬claimed p) → t.flagUnit = s.flagUnit) ∧
      t.tracking.map = s.tracking.map ∧ t.tracking.queue = s.tracking.queue ∧
      t = { s with tracking := t.tracking, flagUnit := t.flagUnit }

/-! ### The index request and the cycle start -/

/-- An index request: refused with the cause of the first check of R33 that fails, at the place R34 gives; else, answered OK, the index is accepted: INDEXING, motion-seen clear, the timer from 0, the permit asserted, every enable deasserted, and the faults of R35 (R33, R34, R35, R36). -/
def Obligations.IndexRequest : Prop :=
  ∀ (s : State) (override : Bool) (d : Word), s.portsFree →
    let refused (cause : Cause) (place : Place) : Prop :=
      exec (.index override) s = .next (s.refusedWrite 0x34 cause place)
    let refusedAtLowest (cause : Cause) (p : StationNo → Prop) : Prop :=
      ∀ k, Lowest k p → refused cause ⟨some (StationNo.wide k), (s.entry k).pallet⟩
    let engaged (k : StationNo) : Prop := s.inLine k = true ∧ (s.station k).engagement ≠ none
    let notClear (k : StationNo) : Prop := s.inLine k = true ∧ (s.station k).clear.filtered = false
    let tagPending (k : StationNo) : Prop :=
      s.isReaderStation k = true ∧ (s.entry k).pallet ≠ none ∧ (s.entry k).status = .predicted
    let uncertain (k : StationNo) : Prop := s.inLine k = true ∧ (s.entry k).status = .uncertain
    if s.line.state ≠ .producing ∧ s.line.state ≠ .restricted then refused .notInState .none
    else if s.line.stopPending = true then refused .stopPending .none
    else if s.gate.state = .indexing then refused .indexInFlight .none
    else if s.monitor.held = true then refused .held .none
    else if s.pins.estop = true then refused .estopActive .none
    else if s.pins.driveFault = true then refused .driveFaulted .none
    else if s.pins.atRest = false then refused .transferNotAtRest .none
    else if ∃ k, engaged k then refusedAtLowest .stationEngaged engaged
    else if ∃ k, notClear k then refusedAtLowest .stationNotClear notClear
    else if ∃ u, (s.entry s.unloadStation).pallet = some u ∧ (s.pallet u).service = .inService ∧
        s.config.params.returnCap ≤ s.tracking.queue.length then
      refused .returnFull
        ⟨some (StationNo.wide s.unloadStation), (s.entry s.unloadStation).pallet⟩
    else if s.line.state = .restricted ∧ override = false then refused .overrideRequired .none
    else if (∃ k, tagPending k) ∧ override = false then refusedAtLowest .tagPending tagPending
    else if (∃ k, uncertain k) ∧ override = false then refusedAtLowest .uncertainEntry uncertain
    else
      let faulted :=
        ((s.answered .ok).addFaultIf (decide (∃ k, tagPending k)) .tagMissing).addFaultIf
          (decide (∃ k, uncertain k)) .uncertainMoved
      Completes (.index override) d s
        { faulted with
          gate :=
            { s.gate with
              state := .indexing, motionSeen := false, permit := true
              timer := { count := 0, running := true, due := false } }
          monitor :=
            { s.monitor with
              stations := Vector.ofFn fun k => { s.station k with enable := false } } }

/-- The memory's OK to a transaction that stands forwarded, whatever came between. It does to the state of that moment what carrying the same transaction out from that state does: the checks of a snooped write are made again against it and its effect taken on it, an overlay shows it (R163, R167, R169); the statements of the single commands say what that is. Where the checks of a gate command, an index request, a tag or a gauge header fail against it, the host is answered OK, the write has no effect but the drop record and is not refused; an index request also sets INDEX_DROPPED (R37, R111, R132, R168, R174). Any other write has no effect then, and a read that is not overlaid returns the memory's data (R163). -/
def Obligations.AnsweredOk : Prop :=
  (∀ (s u : State) (t r : Transaction) (i : Instr) (d : Word),
    s.awaits t → t = { r with stage := .forwarded } →
    (∀ k casting, r.treatment ≠ .cycleStart k casting) → r.treatment ≠ .patch true →
    CarriedOut i r d { s with classifier := { s.classifier with record := none } } u →
      exec (.imageResponseOk d) s =
        .next
          { u with
            classifier :=
              { u.classifier with timer := { s.classifier.timer with running := false } } }) ∧
  (∀ (s : State) (t : Transaction) (d : Word), s.awaits t →
    let answers (reply : Reply) : Prop :=
      exec (.imageResponseOk d) s =
        .next
          { s with
            classifier :=
              { s.classifier with
                record := none, timer := { s.classifier.timer with running := false },
                reply := reply } }
    (t.kind = .write → t.treatment ≠ .snoop → answers .ok) ∧
      (t.kind = .read → t.treatment = .overlay → answers (.okData (s.overlay t.offset t.size))) ∧
      (t.kind = .read → t.treatment ≠ .overlay → answers (.okData (d &&& t.size.mask)))) ∧
  ∀ (s : State) (t : Transaction) (d : Word) (cause : Cause),
    s.awaits t → t.kind = .write → t.treatment = .snoop →
      let dropped (o : Offset) : State :=
        { s.answered .ok with
          classifier :=
            { (s.answered .ok).classifier with
              timer := { s.classifier.timer with running := false }
              drop := { valid := true, offset := o, cause := cause, cycle := s.line.cycle } } }
      (∀ c, t.offset = commandWord → readGateCommand t.data = .ok c →
        firstFailure (s.commandChecks c) = some cause →
        exec (.imageResponseOk d) s = .next (dropped commandWord)) ∧
      (∀ override, t.offset = 0x34 → readTransfer t.data = some (true, override) →
        firstFailure (s.indexChecks override) = some cause →
        exec (.imageResponseOk d) s = .next ((dropped 0x34).raise .indexDropped)) ∧
      (t.offset = 0x38 → firstFailure s.tagChecks = some cause →
        exec (.imageResponseOk d) s = .next (dropped 0x38)) ∧
      (t.offset = 0x50 → firstFailure (s.headerChecks (readHeader t.data).pallet) = some cause →
        exec (.imageResponseOk d) s = .next (dropped 0x50))

/-- A cycle start: NO_STATION beyond the line, MALFORMED for CASTING away from the load station, else the first check of R59 that fails, with the station and its entry's pallet; else, forwarded and answered OK, the station is engaged with its unit from 0 and its indications cleared, its capture untouched (R58, R59, R60, R61, R62, R159). -/
def Obligations.StartRequest : Prop :=
  ∀ (s : State) (k : StationNo) (casting : Bool) (d : Word), s.portsFree →
    let o : Offset := BitVec.ofNat 16 (0x2000 + k.val * 256)
    let refused (cause : Cause) : Prop :=
      exec (.start k casting) s =
        .next (s.refusedWrite o cause ⟨some (StationNo.wide k), (s.entry k).pallet⟩)
    if s.inLine k = false then
      exec (.start k casting) s = .next (s.refusedWrite o .noStation .none)
    else if casting = true ∧ k ≠ 0 then refused .malformed
    else if s.line.state ≠ .producing ∧ s.line.state ≠ .restricted then refused .notInState
    else if s.line.stopPending = true then refused .stopPending
    else if s.gate.state = .indexing then refused .indexInFlight
    else if s.monitor.held = true then refused .held
    else if (s.station k).engagement ≠ none then refused .stationEngaged
    else if (s.entry k).pallet = none then refused .emptyStation
    else if (s.entry k).status = .uncertain then refused .uncertainEntry
    else
      ∀ p, (s.entry k).pallet = some p →
        let admits : Bool :=
          match (s.descriptor k).role, (s.pallet p).block with
          | .load, .empty => true
          | .load, _ => false
          | .machine, .inWork => true
          | .machine, _ => false
          | .gauge, _ => true
          | .unload, .empty => false
          | .unload, _ => true
        if admits = false then refused .blockState
        else if (s.descriptor k).role = .machine ∧
            (s.variantEntry (s.pallet p).variant).passes.getLsbD k.val = true then
          refused .variantPass
        else
          Completes (.start k casting) d s
            ((s.answered .ok).setStation k
              { s.station k with
                engagement := some { casting := casting, acknowledged := false }
                budget := 0, budgetDue := false, warn := false, noAck := false, limit := false })

/-- Code NONE: in the transfer command word it is passed without effect whatever the index state, and refused NOT_IN_STATE in TRIPPED; in a cycle-start word it is passed without effect, and refused INDEX_IN_FLIGHT during an index (R32, R57, R58). -/
def Obligations.NoneCodes : Prop :=
  ∀ (s : State) (k : StationNo) (option : Bool) (d : Word), s.portsFree →
    let o : Offset := BitVec.ofNat 16 (0x2000 + k.val * 256)
    let refused (cause : Cause) : Prop :=
      exec (.cycleStartNone k option) s =
        .next (s.refusedWrite o cause ⟨some (StationNo.wide k), (s.entry k).pallet⟩)
    (if s.line.state = .tripped then
      exec (.transferNone option) s = .next (s.refusedWrite 0x34 .notInState .none)
    else Completes (.transferNone option) d s (s.answered .ok)) ∧
    (if s.inLine k = false then
      exec (.cycleStartNone k option) s = .next (s.refusedWrite o .noStation .none)
    else if option = true ∧ k ≠ 0 then refused .malformed
    else if s.gate.state = .indexing then refused .indexInFlight
    else Completes (.cycleStartNone k option) d s (s.answered .ok))

/-! ### Tags -/

/-- A good tag that names its entry's pallet confirms the entry, with the record MATCH and no fault; in ALIGNING, when that leaves every reader-station entry that holds a pallet CONFIRMED, the line enters PRODUCING (R113, R114, R121, R122). -/
def Obligations.TagMatched : Prop :=
  ∀ (s : State) (r : ReaderNo) (k : StationNo) (p x : Fin 64) (d : Word), s.portsFree →
    Lowest k (fun j => s.inLine j = true ∧ (s.descriptor j).reader = some r) →
    x.val = 63 - p.val → s.gate.state = .idle →
    (s.line.state = .aligning ∨ s.line.state = .producing ∨ s.line.state = .restricted ∨
      s.line.state = .stopped) →
    (s.entry k).pallet = some p →
      let taken : State :=
        { (s.answered .ok).setEntry k { pallet := some p, status := .confirmed } with
          identity :=
            { s.identity with
              tag := some
                { reader := r, station := k, quality := .good, palletRead := some p,
                  entryBefore := some p, outcome := .matched, cycle := s.line.cycle } } }
      let aligned : Prop :=
        ∀ j, j ≠ k → s.isReaderStation j = true → (s.entry j).pallet ≠ none →
          (s.entry j).status = .confirmed
      (s.line.state = .aligning ∧ aligned →
        Completes (.tagGood r p x) d s
          (({ taken with
              identity :=
                { taken.identity with
                  timer := { taken.identity.timer with running := false, due := false } }
              line := { taken.line with failed := 0, clean := 0 } }.enterLine .producing).raiseIf
            s.identity.corrected .alignCorrected)) ∧
      (¬(s.line.state = .aligning ∧ aligned) → Completes (.tagGood r p x) d s taken)

/-- A good tag that disagrees at a reader without authority records TAG_MISMATCH and marks the entry UNCERTAIN; in ALIGNING it fails the attempt: the next starts with UNCERTAIN reader entries PREDICTED again, or at the last the line enters STOPPED with ALIGN_ABORTED (R115, R121, R123, R124). -/
def Obligations.TagUncertain : Prop :=
  ∀ (s : State) (r : ReaderNo) (k : StationNo) (p x : Fin 64) (d : Word), s.portsFree →
    Lowest k (fun j => s.inLine j = true ∧ (s.descriptor j).reader = some r) →
    x.val = 63 - p.val → s.gate.state = .idle →
    (s.line.state = .aligning ∨ s.line.state = .producing ∨ s.line.state = .restricted ∨
      s.line.state = .stopped) →
    (s.entry k).pallet ≠ some p → (s.descriptor k).authority = false →
      let marked : State :=
        { (((s.answered .ok).addFault .tagMismatch).raise .tagMismatch).setEntry k
            { s.entry k with status := .uncertain } with
          identity :=
            { s.identity with
              tag := some
                { reader := r, station := k, quality := .good, palletRead := some p,
                  entryBefore := (s.entry k).pallet, outcome := .uncertain,
                  cycle := s.line.cycle } } }
      let failed : State :=
        { marked with
          identity :=
            { marked.identity with
              remaining := s.identity.remaining - 1
              timer := { s.identity.timer with running := false, due := false } } }
      (s.line.state ≠ .aligning → Completes (.tagGood r p x) d s marked) ∧
      (s.line.state = .aligning → s.identity.remaining ≤ 1 →
        Completes (.tagGood r p x) d s
          (({ failed with identity := { failed.identity with aborted := true } }.raise
            .alignAborted).enterLine .stopped)) ∧
      (s.line.state = .aligning → 2 ≤ s.identity.remaining →
        (∃ j, s.isReaderStation j = true ∧ (s.entry j).pallet ≠ none ∧
          (j = k ∨ (s.entry j).status ≠ .confirmed)) →
        Completes (.tagGood r p x) d s
          { failed with
            identity :=
              { failed.identity with timer := { count := 0, running := true, due := false } }
            tracking :=
              { failed.tracking with
                map := Vector.ofFn fun j =>
                  if s.isReaderStation j = true ∧ (marked.entry j).pallet ≠ none ∧
                      (marked.entry j).status = .uncertain then
                    { marked.entry j with status := .predicted }
                  else marked.entry j } })

/-- A good tag that disagrees at a reader with authority records TAG_MISMATCH. An OUT pallet is corrected in: it is in service and takes the entry CONFIRMED, IN_WORK if the displaced pallet was, which becomes OUT and lost; at the gauge station its gauged this pass is cleared; in ALIGNING the corrected indication is set and success may follow. A pallet in service trips the line with MAP_CONFLICT and changes no entry and no record (R25, R115, R116, R117, R137). -/
def Obligations.TagWithAuthority : Prop :=
  ∀ (s : State) (r : ReaderNo) (k : StationNo) (p x : Fin 64) (d : Word), s.portsFree →
    Lowest k (fun j => s.inLine j = true ∧ (s.descriptor j).reader = some r) →
    x.val = 63 - p.val → s.gate.state = .idle →
    (s.line.state = .aligning ∨ s.line.state = .producing ∨ s.line.state = .restricted ∨
      s.line.state = .stopped) →
    (s.entry k).pallet ≠ some p → (s.descriptor k).authority = true →
      let noted (outcome : TagOutcome) : State :=
        { ((s.answered .ok).addFault .tagMismatch).raise .tagMismatch with
          identity :=
            { s.identity with
              tag := some
                { reader := r, station := k, quality := .good, palletRead := some p,
                  entryBefore := (s.entry k).pallet, outcome := outcome,
                  cycle := s.line.cycle } } }
      let displacedInWork : Bool :=
        match (s.entry k).pallet with
        | some q => (s.pallet q).block == .inWork
        | none => false
      let corrected : State :=
        { (noted .corrected).setEntry k { pallet := some p, status := .confirmed } with
          tracking :=
            { s.tracking with
              map := s.tracking.map.set k.val { pallet := some p, status := .confirmed }
              pallets := Vector.ofFn fun q =>
                if q = p then
                  { s.pallet p with
                    service := .inService
                    block := if displacedInWork then .inWork else .empty
                    gauged := (s.pallet p).gauged && s.gaugeStation != some k }
                else if (s.entry k).pallet = some q then
                  { s.pallet q with service := .out, lost := true }
                else s.pallet q } }
      let aligned : Prop :=
        ∀ j, j ≠ k → s.isReaderStation j = true → (s.entry j).pallet ≠ none →
          (s.entry j).status = .confirmed
      ((s.pallet p).service ≠ .out →
        Completes (.tagGood r p x) d s ((noted .conflict).trip .mapConflict)) ∧
      ((s.pallet p).service = .out → s.line.state ≠ .aligning →
        Completes (.tagGood r p x) d s corrected) ∧
      ((s.pallet p).service = .out → s.line.state = .aligning → ¬aligned →
        Completes (.tagGood r p x) d s
          { corrected with identity := { corrected.identity with corrected := true } }) ∧
      ((s.pallet p).service = .out → s.line.state = .aligning → aligned →
        Completes (.tagGood r p x) d s
          (({ corrected with
              identity :=
                { corrected.identity with
                  corrected := true
                  timer := { s.identity.timer with running := false, due := false } }
              line := { corrected.line with failed := 0, clean := 0 } }.enterLine
            .producing).raise .alignCorrected))

/-- A tag of quality NO_READ is recorded and does nothing else, whatever its pallet and complement fields hold; any tag of an unassigned reader, and a good one whose complement does not match, is refused MALFORMED, during an index INDEX_IN_FLIGHT, and outside ALIGNING, PRODUCING, RESTRICTED and STOPPED NOT_IN_STATE (R110, R111, R112, R113; the fields a malformed tag reports are the model's reading, log 15). -/
def Obligations.TagNoReadAndRefused : Prop :=
  ∀ (s : State) (r : ReaderNo) (p x : Fin 64) (d : Word), s.portsFree →
    let read : Option PalletNo := if x.val = 63 - p.val then some p else none
    let lineRefuses (i : Instr) (place : Place) (next : Prop) : Prop :=
      if s.gate.state = .indexing then exec i s = .next (s.refusedWrite 0x38 .indexInFlight place)
      else if s.line.state ≠ .aligning ∧ s.line.state ≠ .producing ∧
          s.line.state ≠ .restricted ∧ s.line.state ≠ .stopped then
        exec i s = .next (s.refusedWrite 0x38 .notInState place)
      else next
    ((∀ k, s.inLine k = true → (s.descriptor k).reader ≠ some r) →
      exec (.tagNoRead r p x) s = .next (s.refusedWrite 0x38 .malformed .none) ∧
        exec (.tagGood r p x) s = .next (s.refusedWrite 0x38 .malformed ⟨none, read⟩)) ∧
    (∀ k, Lowest k (fun j => s.inLine j = true ∧ (s.descriptor j).reader = some r) →
      lineRefuses (.tagNoRead r p x) ⟨some (StationNo.wide k), none⟩
        (Completes (.tagNoRead r p x) d s
          { s.answered .ok with
            identity :=
              { s.identity with
                tag := some
                  { reader := r, station := k, quality := .noRead, palletRead := none,
                    entryBefore := (s.entry k).pallet, outcome := .noRead,
                    cycle := s.line.cycle } } }) ∧
      (if x.val ≠ 63 - p.val then
        exec (.tagGood r p x) s =
          .next (s.refusedWrite 0x38 .malformed ⟨some (StationNo.wide k), none⟩)
      else lineRefuses (.tagGood r p x) ⟨some (StationNo.wide k), some p⟩ True))

/-! ### Gauge results -/

/-- A gauge data word is taken, in every line state and index state, as a signed 32-bit quantity into its axis of the holding record, and presents nothing (R130). A header that the line does not take: NOT_IN_STATE with no gauge station, GAUGE_LATE during an index, GAUGE_MISMATCH for a pallet that does not stand at the gauge station or stands there UNCERTAIN, each with the gauge station and the header's pallet. A PROBE_FAIL header taken does nothing (R131, R132, R133). -/
def Obligations.GaugeWritesChecked : Prop :=
  (∀ (s : State) (axis : Axis) (value d : Word), s.portsFree →
    Completes (.gaugeDataWrite axis value) d s
      { s.answered .ok with
        compensation :=
          { x := if axis = .x then value.toInt else s.compensation.x
            y := if axis = .y then value.toInt else s.compensation.y
            z := if axis = .z then value.toInt else s.compensation.z } }) ∧
  ∀ (s : State) (p : PalletNo) (d : Word), s.portsFree →
    (s.gaugeStation = none →
      exec (.gaugeHeaderValid p) s = .next (s.refusedWrite 0x50 .notInState ⟨none, some p⟩) ∧
        exec (.gaugeHeaderProbeFail p) s =
          .next (s.refusedWrite 0x50 .notInState ⟨none, some p⟩)) ∧
    (∀ g, s.gaugeStation = some g →
      let place : Place := ⟨some (StationNo.wide g), some p⟩
      if s.gate.state = .indexing then
        exec (.gaugeHeaderValid p) s = .next (s.refusedWrite 0x50 .gaugeLate place) ∧
          exec (.gaugeHeaderProbeFail p) s = .next (s.refusedWrite 0x50 .gaugeLate place)
      else if (s.entry g).pallet ≠ some p ∨ (s.entry g).status = .uncertain then
        exec (.gaugeHeaderValid p) s = .next (s.refusedWrite 0x50 .gaugeMismatch place) ∧
          exec (.gaugeHeaderProbeFail p) s = .next (s.refusedWrite 0x50 .gaugeMismatch place)
      else Completes (.gaugeHeaderProbeFail p) d s (s.answered .ok))

/-- A VALID header for the pallet that stands at the gauge station, not UNCERTAIN: each axis moves by its deviation limited to MAX_STEP, held at OFFSET_LIMIT; ungauged passes 0, gauged this pass set, STEP_LIMITED where a step was limited, and one quarantine claim with QUARANTINED where an axis was clamped (R129, R134, R135, R136, R140). -/
def Obligations.GaugeResultApplied : Prop :=
  ∀ (s : State) (g : StationNo) (p : PalletNo) (d : Word), s.portsFree →
    (∀ j, s.inLine j = true → ((s.descriptor j).role = .gauge ↔ j = g)) →
    0 < g.val → g.val + 1 < s.stationCount → s.gate.state = .idle →
    (s.entry g).pallet = some p → (s.entry g).status ≠ .uncertain → p ∉ s.tracking.queue →
      let maxStep : Int := s.config.params.maxStep
      let limit : Int := s.config.params.offsetLimit
      let step (dev : Int) : Int :=
        if maxStep < dev then maxStep else if dev < -maxStep then -maxStep else dev
      let moved (old dev : Int) : Int :=
        let sum := old + step dev
        if limit < sum then limit else if sum < -limit then -limit else sum
      let clamped (old dev : Int) : Prop :=
        limit < old + step dev ∨ old + step dev < -limit
      let o := (s.pallet p).offset
      let c := s.compensation
      let anyLimited : Prop := step c.x ≠ c.x ∨ step c.y ≠ c.y ∨ step c.z ≠ c.z
      let anyClamped : Prop := clamped o.x c.x ∨ clamped o.y c.y ∨ clamped o.z c.z
      Completes (.gaugeHeaderValid p) d s
        ((((s.answered .ok).setPallet p
          { s.pallet p with
            offset := ⟨moved o.x c.x, moved o.y c.y, moved o.z c.z⟩
            ungauged := 0
            gauged := true
            service :=
              if anyClamped ∧ (s.pallet p).service = .inService then .quarantine
              else (s.pallet p).service }).raiseIf (decide anyLimited) .stepLimited).raiseIf
          (decide anyClamped) .quarantined)

/-! ### Snooped words, configuration and patching -/

/-- The capture-clear word clears valid and overwritten of every capture whose position is written as 1, the index capture's at bit 31, and leaves the values; a misaligned write is refused (R47, R70, R159, R160). The flag word clears every flag written as 1 and leaves every other; the drop record word clears valid where bit 0 is written as 1 and leaves the other fields (R168, R187). -/
def Obligations.WrittenOnesCleared : Prop :=
  (∀ (s : State) (lane : Fin 4) (size : Size) (data d : Word), s.portsFree →
    let i : Instr := .captureClearWrite lane size data
    let w : Word := (data &&& size.mask) <<< (8 * lane.val)
    let cleared (c : Capture) (written : Bool) : Capture :=
      { value := c.value, valid := c.valid && !written, overwritten := c.overwritten && !written }
    if lane.val % size.bytes ≠ 0 then
      exec i s = .next (s.refusedWrite (BitVec.ofNat 16 (0x40 + lane.val)) .misaligned .none)
    else
      Completes i d s
        { s.answered .ok with
          gate := { s.gate with capture := cleared s.gate.capture (w.getLsbD 31) }
          monitor :=
            { s.monitor with
              stations := Vector.ofFn fun k =>
                { s.station k with capture := cleared (s.station k).capture (w.getLsbD k.val) } } }) ∧
  ∀ (s : State) (lane : Fin 4) (size : Size) (data d : Word), s.portsFree →
    let w : Word := (data &&& size.mask) <<< (8 * lane.val)
    if lane.val % size.bytes ≠ 0 then
      exec (.flagWordWrite lane size data) s =
          .next (s.refusedWrite (BitVec.ofNat 16 (0x0C + lane.val)) .misaligned .none) ∧
        exec (.dropRecordClear lane size data) s =
          .next (s.refusedWrite (BitVec.ofNat 16 (0x20 + lane.val)) .misaligned .none)
    else
      (∃ t, Completes (.flagWordWrite lane size data) d s t ∧
        (∀ f, t.hasFlag f = (s.hasFlag f && !w.getLsbD f.bit)) ∧
        t =
          { s.answered .ok with
            flagUnit := { s.flagUnit with flags := t.flagUnit.flags } }) ∧
      Completes (.dropRecordClear lane size data) d s
        { s.answered .ok with
          classifier :=
            { (s.answered .ok).classifier with
              drop :=
                { s.classifier.drop with valid := s.classifier.drop.valid && !w.getLsbD 0 } } }

/-- The flag enable word and the view selector take the bytes written and keep the others (R172, R188). -/
def Obligations.EnablesAndSelectorWritten : Prop :=
  ∀ (s : State) (lane : Fin 4) (size : Size) (data d : Word), s.portsFree →
    let written (i : Nat) (old : Bool) : Bool :=
      if 8 * lane.val ≤ i ∧ i < 8 * (lane.val + size.bytes) then data.getLsbD (i - 8 * lane.val)
      else old
    if lane.val % size.bytes ≠ 0 then
      exec (.flagEnableWrite lane size data) s =
          .next (s.refusedWrite (BitVec.ofNat 16 (0x10 + lane.val)) .misaligned .none) ∧
        exec (.viewSelectorWrite lane size data) s =
          .next (s.refusedWrite (BitVec.ofNat 16 (0x3C + lane.val)) .misaligned .none)
    else
      (∃ t, Completes (.flagEnableWrite lane size data) d s t ∧
        (∀ i, i < 22 →
          t.flagUnit.enables.getLsbD i = written i (s.flagUnit.enables.getLsbD i)) ∧
        t =
          { s.answered .ok with
            flagUnit := { s.flagUnit with enables := t.flagUnit.enables } }) ∧
      ∃ t, Completes (.viewSelectorWrite lane size data) d s t ∧
        (∀ i, i < 32 →
          t.classifier.selector.getLsbD i = written i (s.classifier.selector.getLsbD i)) ∧
        t =
          { s.answered .ok with
            classifier :=
              { (s.answered .ok).classifier with selector := t.classifier.selector } }

/-- A configuration write: MISALIGNED first, NOT_IN_STATE outside SETUP, BAD_CONFIG where its checks fail, a descriptor's with its station; taken, the block reads back as the entry formed, written bytes over the old ones, and nothing outside the store changes but, for the line parameters, the map positions beyond the old or the new line, the variants of OUT pallets the new VARIANT_COUNT does not know, the remaining attempts and the enables (R8, R180, R181, R182, R183). -/
def Obligations.ConfigurationWritten : Prop :=
  ∀ (s : State) (o : Offset) (size : Size) (data d : Word), s.portsFree →
    let i : Instr := .configurationWrite o size data
    let w : Word := data &&& size.mask
    let decided (place : Place) (takes : Bool) (taken : Prop) : Prop :=
      if o.toNat % size.bytes ≠ 0 then exec i s = .next (s.refusedWrite o .misaligned .none)
      else if s.line.state ≠ .setup then exec i s = .next (s.refusedWrite o .notInState place)
      else if takes = false then exec i s = .next (s.refusedWrite o .badConfig place)
      else taken
    (0x100 ≤ o.toNat → o.toNat < 0x200 →
      let first := o.toNat - 0x100
      decided .none (s.paramsTake first size w)
        (∃ t, Completes i d s t ∧
          (∀ b, t.config.params.byte b = formBytes s.config.params.byte first size w b) ∧
          (∀ k, t.entry k =
            if s.inLine k = true ∧ t.inLine k = true then s.entry k
            else { pallet := none, status := .confirmed }) ∧
          (∀ p, t.pallet p =
            if (s.pallet p).service = .out ∧
                t.config.params.variantCount.val ≤ (s.pallet p).variant.val then
              { s.pallet p with variant := 0 }
            else s.pallet p) ∧
          t.tracking.queue = s.tracking.queue ∧
          t.identity =
            { s.identity with
              remaining := min s.identity.remaining t.config.params.alignAttempts } ∧
          (∀ k, t.station k = { s.station k with enable := t.enablePermitted k }) ∧
          t.monitor.held = s.monitor.held ∧
          t =
            { s.answered .ok with
              config := { s.config with params := t.config.params }
              tracking := t.tracking, identity := t.identity, monitor := t.monitor })) ∧
    (∀ k : StationNo, 0x200 + k.val * 32 ≤ o.toNat → o.toNat < 0x200 + k.val * 32 + 32 →
      let first := o.toNat - (0x200 + k.val * 32)
      decided ⟨some (StationNo.wide k), (s.entry k).pallet⟩ (s.descriptorTakes k first size w)
        (∃ e : Descriptor,
          (∀ b, e.byte b = formBytes (s.descriptor k).byte first size w b) ∧
          Completes i d s
            { s.answered .ok with
              config :=
                { s.config with descriptors := s.config.descriptors.set k.val e } })) ∧
    (∀ v : Fin 6, 0x600 + v.val * 16 ≤ o.toNat → o.toNat < 0x600 + v.val * 16 + 16 →
      let first := o.toNat - (0x600 + v.val * 16)
      decided .none (s.variantTakes v first size w)
        (∃ e : VariantEntry,
          (∀ b, e.byte b = formBytes (s.variantEntry v).byte first size w b) ∧
          Completes i d s
            { s.answered .ok with
              config := { s.config with variants := s.config.variants.set v.val e } }))

/-- What the checks of a configuration write ask of the entry as formed, for every field the write touches: its range, zero in every reserved byte and bit the write covers, and, of the four bounded parameters, that the account as it stands is within the new bound (R177, R178, R179, R180, R181, R182). A configuration write is taken exactly when they hold (ConfigurationWritten). -/
def Obligations.ParameterLaws : Prop :=
  ∀ (s : State) (c : Word),
    (c.toNat < 256 →
      (s.paramsTake 0x00 .one c = true ↔
        3 ≤ c.toNat ∧ c.toNat ≤ 28 ∧ ∀ k : StationNo, c.toNat ≤ k.val → (s.entry k).pallet = none) ∧
      (s.paramsTake 0x01 .one c = true ↔
        1 ≤ c.toNat ∧ c.toNat ≤ 36 ∧ s.tracking.queue.length ≤ c.toNat) ∧
      (s.paramsTake 0x02 .one c = true ↔
        1 ≤ c.toNat ∧ c.toNat ≤ 6 ∧
          ∀ p, (s.pallet p).service ≠ .out → (s.pallet p).variant.val < c.toNat)) ∧
    (s.paramsTake 0x14 .four c = true ↔
      1 ≤ c.toNat ∧ c.toNat ≤ 50000 ∧
        ∀ p, (s.pallet p).offset.x.natAbs ≤ c.toNat ∧ (s.pallet p).offset.y.natAbs ≤ c.toNat ∧
          (s.pallet p).offset.z.natAbs ≤ c.toNat) ∧
    ∀ (first : Nat) (size : Size),
      let touched (b n : Nat) : Prop := first < b + n ∧ b < first + size.bytes
      let half (formed : Nat → Nat) (b : Nat) : Nat := formed b + 256 * formed (b + 1)
      (let formed : Nat → Nat := formBytes s.config.params.byte first size c
        let limit : Nat := half formed 0x14 + 65536 * half formed 0x16
        s.paramsTake first size c = true ↔
          (touched 0x00 1 → 3 ≤ formed 0x00 ∧ formed 0x00 ≤ 28 ∧
            ∀ k : StationNo, formed 0x00 ≤ k.val → (s.entry k).pallet = none) ∧
          (touched 0x01 1 → 1 ≤ formed 0x01 ∧ formed 0x01 ≤ 36 ∧
            s.tracking.queue.length ≤ formed 0x01) ∧
          (touched 0x02 1 → 1 ≤ formed 0x02 ∧ formed 0x02 ≤ 6 ∧
            ∀ p, (s.pallet p).service ≠ .out → (s.pallet p).variant.val < formed 0x02) ∧
          (touched 0x03 1 → formed 0x03 ≤ 15) ∧
          (touched 0x04 2 → 1 ≤ half formed 0x04) ∧
          (touched 0x06 2 → 1 ≤ half formed 0x06) ∧
          (touched 0x08 1 → 1 ≤ formed 0x08 ∧ formed 0x08 ≤ 15) ∧
          (touched 0x09 1 → 1 ≤ formed 0x09 ∧ formed 0x09 ≤ 15) ∧
          (touched 0x0A 1 → 1 ≤ formed 0x0A ∧ formed 0x0A ≤ 31) ∧
          (touched 0x0B 1 → 1 ≤ formed 0x0B ∧ formed 0x0B ≤ 31) ∧
          (touched 0x0C 2 → 1 ≤ half formed 0x0C) ∧
          (touched 0x0E 1 → 1 ≤ formed 0x0E ∧ formed 0x0E ≤ 15) ∧
          (touched 0x10 2 → 1 ≤ half formed 0x10 ∧ half formed 0x10 ≤ 2000) ∧
          (touched 0x14 4 → 1 ≤ limit ∧ limit ≤ 50000 ∧
            ∀ p, (s.pallet p).offset.x.natAbs ≤ limit ∧ (s.pallet p).offset.y.natAbs ≤ limit ∧
              (s.pallet p).offset.z.natAbs ≤ limit) ∧
          ∀ b, touched b 1 → b = 0x0F ∨ b = 0x12 ∨ b = 0x13 ∨ 0x18 ≤ b → formed b = 0) ∧
      (∀ k : StationNo,
        let formed : Nat → Nat := formBytes (s.descriptor k).byte first size c
        s.descriptorTakes k first size c = true ↔
          (touched 0x00 1 → formed 0x00 ≤ 3) ∧
          (touched 0x01 1 → formed 0x01 ≤ 3 ∨ formed 0x01 = 0xFF) ∧
          (touched 0x02 1 → formed 0x02 ≤ 1) ∧
          (touched 0x03 1 → formed 0x03 ≤ 2) ∧
          (touched 0x04 2 → 1 ≤ half formed 0x04) ∧
          (touched 0x06 2 → 1 ≤ half formed 0x06) ∧
          (touched 0x08 2 → 1 ≤ half formed 0x08) ∧
          ∀ b, touched b 1 → 0x0A ≤ b → formed b = 0) ∧
      ∀ v : Fin 6,
        let formed : Nat → Nat := formBytes (s.variantEntry v).byte first size c
        s.variantTakes v first size c = true ↔
          (touched 0x02 1 → 1 ≤ formed 0x02 ∧ formed 0x02 ≤ 250) ∧
          (touched 0x04 4 → formed 0x07 < 16) ∧
          ∀ b, touched b 1 → b = 0x03 ∨ 0x08 ≤ b → formed b = 0

/-- A write to a rule entry: NOT_IN_STATE outside SETUP, BAD_CONFIG where the rule as formed fails a check, else the rule becomes the rule as formed. The rule as formed passes exactly when each field holds one of its values, the reserved bits are zero, and, if it is enabled, no other enabled rule names its station and word (R142, R146). -/
def Obligations.PatchRuleWritten : Prop :=
  ∀ (s : State) (r : Fin 24) (o : Offset) (size : Size) (data d : Word), s.portsFree →
    0x700 + r.val * 8 ≤ o.toNat → o.toNat < 0x700 + r.val * 8 + 8 →
      let i : Instr := .patchRuleWrite o size data
      let w : Word := data &&& size.mask
      let first := o.toNat - (0x700 + r.val * 8)
      let formed (b : Nat) : Nat := formBytes (s.rule r).byte first size w b
      let again : Prop :=
        formed 0 % 2 = 1 ∧ ∃ j, j ≠ r ∧ (s.rule j).enabled = true ∧
          (s.rule j).station.val = formed 1 ∧ (s.rule j).word.val = formed 2
      (again → s.ruleTakes r first size w = false) ∧
      (s.ruleTakes r first size w = true ↔
        formed 0 < 8 ∧ formed 1 ≤ 27 ∧ 1 ≤ formed 2 ∧ formed 2 ≤ 63 ∧ formed 3 ≤ 2 ∧
          formed 4 ≤ 6 ∧ formed 5 = 0 ∧ formed 6 = 0 ∧ formed 7 = 0 ∧ ¬again) ∧
      (if o.toNat % size.bytes ≠ 0 then exec i s = .next (s.refusedWrite o .misaligned .none)
      else if s.line.state ≠ .setup then exec i s = .next (s.refusedWrite o .notInState .none)
      else if s.ruleTakes r first size w = false then
        exec i s = .next (s.refusedWrite o .badConfig .none)
      else
        ∃ e : PatchRule, (∀ b, e.byte b = formed b) ∧
          Completes i d s { s.answered .ok with patch := s.patch.set r.val e })

/-- A patched write: the checks of R149 in order; then the field read by the rule's width and signedness, combined exactly with the pallet's offset or ratio; within the field's range the result is forwarded, beyond it the result reduced by a multiple of 2 to the width, with PATCH_OVERFLOW as flag and fault at forwarding; with trap on an overflow is refused with both. The bytes above the field take its extension (R149 to R154). -/
def Obligations.PatchedWrite : Prop :=
  ∀ (s : State) (k : StationNo) (n : Fin 64) (lane : Fin 4) (size : Size) (data d : Word)
    (r : Fin 24), s.portsFree → s.inLine k = true → n ≠ 0 →
    (∀ j, (s.rule j).names k n.val = true ↔ j = r) →
      let rule := s.rule r
      let i : Instr := .patchedWrite k n lane size data
      let o : Offset := BitVec.ofNat 16 (0x2000 + k.val * 256 + n.val * 4 + lane.val)
      let place : Place := ⟨some (StationNo.wide k), (s.entry k).pallet⟩
      let w : Word := data &&& size.mask
      let width : Nat := rule.width.bits
      let half : Int := 2 ^ (width - 1)
      let whole : Int := 2 ^ width
      let low : Int := if rule.signed then -half else 0
      let high : Int := if rule.signed then half - 1 else whole - 1
      let field : Int := (w.toNat % 2 ^ width : Nat)
      let value : Int := if rule.signed = true ∧ half ≤ field then field - whole else field
      if lane.val % size.bytes ≠ 0 then exec i s = .next (s.refusedWrite o .misaligned .none)
      else if s.gate.state = .indexing then exec i s = .next (s.refusedWrite o .indexInFlight place)
      else if lane ≠ 0 ∨ 8 * size.bytes < width then
        exec i s = .next (s.refusedWrite o .partialPatch place)
      else if (s.entry k).pallet = none then
        exec i s = .next (s.refusedWrite o .emptyStation place)
      else if (s.entry k).status = .uncertain then
        exec i s = .next (s.refusedWrite o .uncertainEntry place)
      else
        ∀ p, (s.entry k).pallet = some p →
          let offset := (s.pallet p).offset
          let ratio : Int := (s.variantEntry (s.pallet p).variant).ratio
          let result : Int :=
            match rule.op with
            | .addX => value + offset.x
            | .addY => value + offset.y
            | .addZ => value + offset.z
            | .subX => value - offset.x
            | .subY => value - offset.y
            | .subZ => value - offset.z
            | .scale => Int.tdiv (value * ratio) 100
          let fits : Prop := low ≤ result ∧ result ≤ high
          if ¬fits ∧ rule.trap = true then
            exec i s =
              .next
                (((s.addFault .patchOverflow).raise .patchOverflow).refusedWrite o .patchOverflow
                  place)
          else
            ∃ v : Int, low ≤ v ∧ v ≤ high ∧ (result - v) % whole = 0 ∧
              CarriedOut i
                { kind := .write, address := s.addressOf o, outside := false, size := size,
                  data := w, treatment := .patch (decide ¬fits), target := s.addressOf o,
                  sent := BitVec.ofInt 32 v &&& size.mask, decidedCause := none,
                  stage := .arrived }
                d s
                (((s.answered .ok).addFaultIf (decide ¬fits) .patchOverflow).raiseIf
                  (decide ¬fits) .patchOverflow)

/-- The station command windows. A word 1 to 63 that no enabled rule names is passed as it was written while no index is in flight, and refused INDEX_IN_FLIGHT during one. A cycle-start write that is short, has another code or a reserved bit, or has CASTING away from station 0 is refused MALFORMED. Every read is passed. Beyond the line every access is refused NO_STATION, a misaligned one MISALIGNED before that (R57, R58, R148, R159). -/
def Obligations.CommandWordPassed : Prop :=
  ∀ (s : State) (k : StationNo) (n : Fin 64) (lane : Fin 4) (size : Size) (data d : Word),
    s.portsFree →
      let i : Instr := .patchedWrite k n lane size data
      let o : Offset := BitVec.ofNat 16 (0x2000 + k.val * 256 + n.val * 4 + lane.val)
      let read : Instr := .hostRead (s.addressOf o) size
      let w : Word := data &&& size.mask
      let place : Place := ⟨some (StationNo.wide k), (s.entry k).pallet⟩
      if lane.val % size.bytes ≠ 0 then
        exec i s = .next (s.refusedWrite o .misaligned .none) ∧
          exec read s = .next (s.refusedRead o .misaligned .none)
      else if s.inLine k = false then
        exec i s = .next (s.refusedWrite o .noStation .none) ∧
          exec read s = .next (s.refusedRead o .noStation .none)
      else
        CarriedOut read
          { kind := .read, address := s.addressOf o, outside := false, size := size, data := 0
            treatment := .pass, target := s.addressOf o, sent := 0, decidedCause := none
            stage := .arrived }
          d s (s.answered (.okData (d &&& size.mask))) ∧
        (n = 0 → size ≠ .four ∨ w &&& ~~~0x101 ≠ 0 ∨ (w.getLsbD 8 = true ∧ k ≠ 0) →
          exec i s = .next (s.refusedWrite o .malformed place)) ∧
        (n ≠ 0 → (∀ j, (s.rule j).names k n.val = false) →
          if s.gate.state = .indexing then
            exec i s = .next (s.refusedWrite o .indexInFlight place)
          else
            CarriedOut i
              { kind := .write, address := s.addressOf o, outside := false, size := size, data := w
                treatment := .pass, target := s.addressOf o, sent := w, decidedCause := none
                stage := .arrived }
              d s (s.answered .ok))

/-! ### Views, the rest of the image and the bus -/

/-- An access through a station view, or through the roving view for the station the selector names, goes to the work record of the pallet that stands there, with kind, size and data unchanged, and the memory's answer comes back unchanged; refused EMPTY_STATION or UNCERTAIN_ENTRY with the station and its entry's pallet, and NO_STATION beyond the line (R171, R172; the report of the roving view is the model's reading, log 14). -/
def Obligations.ViewsRedirected : Prop :=
  ∀ (s : State) (o : Fin 256) (access : Access) (d : Word), s.portsFree →
    let size : Size := match access with | .read z => z | .write z _ => z
    let refused (i : Instr) (at0 : Offset) (cause : Cause) (place : Place) : Prop :=
      exec i s =
        .next
          (match access with
            | .read _ => s.refusedRead at0 cause place
            | .write _ _ => s.refusedWrite at0 cause place)
    let redirected (i : Instr) (at0 : Offset) (k : StationNo) : Prop :=
      let place : Place := ⟨some (StationNo.wide k), (s.entry k).pallet⟩
      if (s.entry k).pallet = none then refused i at0 .emptyStation place
      else if (s.entry k).status = .uncertain then refused i at0 .uncertainEntry place
      else
        ∀ p, (s.entry k).pallet = some p →
          let target := s.addressOf (BitVec.ofNat 16 (0x6000 + p.val * 256 + o.val))
          CarriedOut i
            (match access with
              | .read z =>
                { kind := .read, address := s.addressOf at0, outside := false, size := z, data := 0
                  treatment := .redirect, target := target, sent := 0, decidedCause := none
                  stage := .arrived }
              | .write z w =>
                { kind := .write, address := s.addressOf at0, outside := false, size := z
                  data := w &&& z.mask, treatment := .redirect, target := target
                  sent := w &&& z.mask, decidedCause := none, stage := .arrived })
            d s
            (match access with
              | .read z => s.answered (.okData (d &&& z.mask))
              | .write _ _ => s.answered .ok)
    (∀ k : StationNo,
      let i : Instr := .stationViewAccess k o access
      let at0 : Offset := BitVec.ofNat 16 (0x4000 + k.val * 256 + o.val)
      if o.val % size.bytes ≠ 0 then refused i at0 .misaligned .none
      else if s.inLine k = false then refused i at0 .noStation .none
      else redirected i at0 k) ∧
    (let i : Instr := .rovingViewAccess o access
      let at0 : Offset := BitVec.ofNat 16 (0x5C00 + o.val)
      let n := s.classifier.selector.toNat
      if o.val % size.bytes ≠ 0 then refused i at0 .misaligned .none
      else if h : n < s.stationCount ∧ n < 28 then redirected i at0 ⟨n, h.2⟩
      else
        refused i at0 .noStation
          ⟨if h : n < 28 then some ⟨n, by omega⟩ else none, none⟩)

/-- Every other write and read. Outside the line image every access is passed, whatever its size and alignment, and the memory's answer comes back. Inside it a misaligned access is refused MISALIGNED and a write of a read-only word or view READ_ONLY; a word that carries nothing and an offset between the windows are passed both ways, and a word the part takes in is passed on read. What is passed goes out with its own address, size and data. A short write of a word that needs 4 bytes is refused MALFORMED, and so is a gate command with a field it does not use or a bit of no field set, a transfer, tag or gauge header word with a reserved bit, and a code, quality or status that none has; an unknown gate command UNKNOWN_COMMAND. A write or a read that presents what another row of the table presents is that row (R32, R110, R130, R131, R157, R158, R159, R160, R170, R173; the fields a malformed tag reports are the model's reading, log 15). -/
def Obligations.OtherAccesses : Prop :=
  ∀ (s : State) (size : Size) (data d : Word), s.portsFree →
    let w : Word := data &&& size.mask
    let named : PalletNo := ⟨data.toNat / 0x100 % 64, by omega⟩
    let write (o : Offset) : Instr := .hostWriteOther (s.addressOf o) size data
    let read (o : Offset) : Instr := .hostRead (s.addressOf o) size
    let passes (a : Address) (outside : Bool) (i : Instr) (kind : Kind) (data : Word)
        (reply : Reply) : Prop :=
      CarriedOut i
        { kind := kind, address := a, outside := outside, size := size, data := data
          treatment := .pass, target := a, sent := data, decidedCause := none, stage := .arrived }
        d s (s.answered reply)
    let goesOut (a : Address) (outside : Bool) : Prop :=
      passes a outside (.hostWriteOther a size data) .write w .ok
    let comesBack (a : Address) (outside : Bool) : Prop :=
      passes a outside (.hostRead a size) .read 0 (.okData (d &&& size.mask))
    let refused (o : Offset) (cause : Cause) (place : Place) : Prop :=
      exec (write o) s = .next (s.refusedWrite o cause place)
    (∀ a, s.insideImage a = false → goesOut a true ∧ comesBack a true) ∧
    (∀ o : Offset, o.toNat % size.bytes ≠ 0 →
      refused o .misaligned .none ∧ exec (read o) s = .next (s.refusedRead o .misaligned .none)) ∧
    (∀ o : Offset, o.toNat % size.bytes = 0 →
      ((o.toNat < 0x0C ∨ (0x14 ≤ o.toNat ∧ o.toNat < 0x20) ∨
          (0x24 ≤ o.toNat ∧ o.toNat < 0x2C) ∨ (0x800 ≤ o.toNat ∧ o.toNat < 0x11E0)) →
        refused o .readOnly .none) ∧
      (((0x2C ≤ o.toNat ∧ o.toNat < 0x30) ∨ (0x54 ≤ o.toNat ∧ o.toNat < 0x100) ∨
          (0x580 ≤ o.toNat ∧ o.toNat < 0x600) ∨ (0x660 ≤ o.toNat ∧ o.toNat < 0x700) ∨
          (0x7C0 ≤ o.toNat ∧ o.toNat < 0x800) ∨ (0x11E0 ≤ o.toNat ∧ o.toNat < 0x2000) ∨
          (0x3C00 ≤ o.toNat ∧ o.toNat < 0x4000) ∨ 0x5D00 ≤ o.toNat) →
        goesOut (s.addressOf o) false ∧ comesBack (s.addressOf o) false) ∧
      (0x30 ≤ o.toNat → o.toNat < 0x54 → comesBack (s.addressOf o) false) ∧
      (size ≠ .four → (0x30 ≤ o.toNat ∧ o.toNat < 0x3C) ∨ (0x44 ≤ o.toNat ∧ o.toNat < 0x54) →
        refused o .malformed .none)) ∧
    (size = .four →
      (let code := data.toNat % 32
        let used : Word :=
          if code = 8 then (if data.getLsbD 21 = true then 0x073F3F1F else 0x07203F1F)
          else if code = 9 ∨ code = 11 ∨ code = 12 ∨ code = 13 then 0x3F1F
          else if code = 10 then 0x07003F1F
          else if code = 14 ∨ code = 22 then 0x1F001F
          else if code = 16 then 0x3000001F
          else 0x1F
        if code ∉ [1, 2, 3, 4, 5, 8, 9, 10, 11, 12, 13, 14, 16, 20, 21, 22] then
          refused commandWord .unknownCommand .none
        else data &&& ~~~used ≠ 0 → refused commandWord .malformed .none) ∧
      (data &&& ~~~0x101 ≠ 0 → refused 0x34 .malformed .none) ∧
      (data &&& ~~~0x3F3F13 ≠ 0 →
        refused 0x38 .malformed
          ⟨none,
            if data.toNat / 0x10 % 4 = 0 ∧ data.toNat / 0x10000 % 64 = 63 - named.val then
              some named
            else none⟩) ∧
      (data &&& ~~~0x13F ≠ 0 →
        refused 0x50 .malformed ⟨none, some ⟨data.toNat % 64, by omega⟩⟩)) ∧
    (∀ (i : Instr) (q : BusAccess), s.presents i = some q →
      exec i s =
        match q.kind with
        | .write => exec (.hostWriteOther q.address q.size q.data) s
        | .read => exec (.hostRead q.address q.size) s)

/-- An overlaid read returns the part's value, whatever the memory holds, each byte as the word it lies in gives it: every word of the gate control block that is overlaid, the pallet table view with the derived location, the map and queue view, the station capture view, the configuration blocks and the rule entries, every bit and byte of no field 0 (R6, R13, R82, R145, R169, R186, R188, R190, R191, R192, R193; 11). AnsweredOk says that this is the value at the OK. -/
def Obligations.OverlaidReads : Prop :=
  ∀ (s : State) (d : Word), s.portsFree →
    let shows (base : Nat) (v : Word) : Prop :=
      ∀ (lane : Fin 4) (size : Size), lane.val % size.bytes = 0 →
        let a : Address := s.addressOf (BitVec.ofNat 16 (base + lane.val))
        CarriedOut (.hostRead a size)
          { kind := .read, address := a, outside := false, size := size, data := 0
            treatment := .overlay, target := a, sent := 0, decidedCause := none, stage := .arrived }
          d s (s.answered (.okData ((v >>> (8 * lane.val)) &&& size.mask)))
    let number {n : Nat} (x : Option (Fin n)) : Nat := match x with | some a => a.val | none => 0
    let capture (c : Capture) : List (Nat × Nat × Nat) :=
      [(0, 16, c.value), (16, 1, c.valid.toNat), (17, 1, c.overwritten.toNat)]
    let shown (at0 : Nat) (k : Nat) : List (Nat × Nat × Nat) :=
      if h : k < 28 then
        let e : MapEntry :=
          if k < s.stationCount then s.entry ⟨k, h⟩ else { pallet := none, status := .confirmed }
        [ (at0, 6, number e.pallet), (at0 + 7, 1, e.pallet.isSome.toNat),
          (at0 + 8, 2, e.status.code) ]
      else []
    let queued (at0 : Nat) (i : Nat) : List (Nat × Nat × Nat) :=
      [ (at0, 6, number s.tracking.queue[i]?), (at0 + 7, 1, s.tracking.queue[i]?.isSome.toNat) ]
    let report := s.flagUnit.report
    let drop := s.classifier.drop
    let params := s.config.params
    (shows 0x00
      (pack
        [ (0, 3, s.line.state.code), (3, 3, s.line.tripCause.code),
          (6, 1, s.line.stopPending.toNat), (7, 1, (s.gate.state == .indexing).toNat),
          (8, 1, s.monitor.held.toNat), (9, 1, s.gate.frozen.toNat),
          (10, 1, s.identity.aborted.toNat), (11, 1, s.identity.corrected.toNat),
          (16, 8, s.line.cycle.toNat) ]) ∧
      shows 0x04
        (pack [(0, 4, s.line.failed), (8, 5, s.line.clean), (16, 5, s.identity.remaining)]) ∧
      shows 0x08 (pack [(0, 8, s.line.current.toNat), (8, 8, s.line.last.toNat)]) ∧
      shows 0x0C (pack [(0, 22, s.flagUnit.flags.toNat)]) ∧
      shows 0x10 (pack [(0, 22, s.flagUnit.enables.toNat)]) ∧
      shows 0x14
        (pack
          [ (0, 5, report.cause.code), (5, 1, report.kind.code), (6, 1, report.outside.toNat),
            (8, 8, report.cycle.toNat), (16, 16, report.offset.toNat) ]) ∧
      shows 0x18
        (pack
          [ (0, 5, number report.station), (7, 1, report.station.isSome.toNat),
            (8, 6, number report.pallet), (15, 1, report.pallet.isSome.toNat) ]) ∧
      shows 0x1C (pack [(0, 16, s.flagUnit.refusals)]) ∧
      shows 0x20
        (pack
          [ (0, 1, drop.valid.toNat), (1, 5, drop.cause.code), (8, 8, drop.cycle.toNat),
            (16, 16, drop.offset.toNat) ]) ∧
      shows 0x24 (pack (capture s.gate.capture)) ∧
      shows 0x28
        (match s.identity.tag with
          | none => 0
          | some r =>
            pack
              [ (0, 1, 1), (1, 2, r.reader.val), (3, 3, r.outcome.code), (6, 5, r.station.val),
                (11, 6, number r.palletRead), (17, 6, number r.entryBefore),
                (23, 1, r.entryBefore.isSome.toNat), (24, 8, r.cycle.toNat) ])) ∧
    (∀ p : PalletNo,
      let r := s.pallet p
      let base := 0x800 + p.val * 32
      let onMap (k : StationNo) : Prop := s.inLine k = true ∧ (s.entry k).pallet = some p
      let located (kind place : Nat) : Prop :=
        (kind = 1 ∧ ∃ k, place = k.val ∧ Lowest k onMap) ∨
        ((∀ k, ¬onMap k) ∧ kind = 2 ∧ s.tracking.queue[place]? = some p ∧
          ∀ i, i < place → s.tracking.queue[i]? ≠ some p) ∨
        ((∀ k, ¬onMap k) ∧ kind = 0 ∧ place = 0 ∧ p ∉ s.tracking.queue)
      (∀ kind place, located kind place →
        shows base
            (pack
              [ (0, 2, r.service.code), (2, 2, r.block.code), (4, 1, r.lost.toNat),
                (5, 1, r.gauged.toNat), (8, 3, r.variant.val), (16, 4, r.ungauged),
                (24, 2, kind) ]) ∧
          shows (base + 4) (pack [(0, 6, place), (16, 16, r.laps)])) ∧
        shows (base + 8) (pack [(0, 16, (s.variantEntry r.variant).code)]) ∧
        shows (base + 12) (BitVec.ofInt 32 r.offset.x) ∧
        shows (base + 16) (BitVec.ofInt 32 r.offset.y) ∧
        shows (base + 20) (BitVec.ofInt 32 r.offset.z) ∧
        shows (base + 24) 0 ∧ shows (base + 28) 0) ∧
    (∀ n : Fin 64,
      shows (0x1000 + n.val * 4)
        (if n.val < 14 then pack (shown 0 (2 * n.val) ++ shown 16 (2 * n.val + 1))
        else if n.val = 16 then pack [(0, 6, s.tracking.queue.length)]
        else if 17 ≤ n.val ∧ n.val < 26 then
          let i := 4 * (n.val - 17)
          pack (queued 0 i ++ queued 8 (i + 1) ++ queued 16 (i + 2) ++ queued 24 (i + 3))
        else 0)) ∧
    (∀ k : StationNo,
      let st := s.station k
      let present : Bool :=
        match (s.descriptor k).mode with
        | .auto => st.presence.filtered
        | .forcePresent => true
        | .forceAbsent => false
      let runs : Bool :=
        st.engagement.isSome && decide (st.budget < (s.descriptor k).limit) && !s.monitor.held &&
          s.line.state != .tripped
      shows (0x1100 + k.val * 8)
          (pack
            (capture st.capture ++
              [ (18, 1, st.engagement.isSome.toNat),
                (19, 1, (match st.engagement with | some e => e.casting.toNat | none => 0)),
                (20, 1, (match st.engagement with | some e => e.acknowledged.toNat | none => 0)),
                (21, 1, st.warn.toNat), (22, 1, st.noAck.toNat), (23, 1, st.limit.toNat),
                (24, 1, st.clear.filtered.toNat), (25, 1, present.toNat),
                (26, 1, st.enable.toNat), (27, 1, runs.toNat) ])) ∧
        shows (0x1100 + k.val * 8 + 4) (pack [(0, 16, st.budget)])) ∧
    (∀ n : Fin 64,
      shows (0x100 + n.val * 4)
        (match n.val with
          | 0 =>
            pack
              [ (0, 8, params.stationCount.val), (8, 8, params.returnCap),
                (16, 8, params.variantCount.val), (24, 8, params.filterMs) ]
          | 1 => pack [(0, 16, params.indexSlow), (16, 16, params.indexLimit)]
          | 2 =>
            pack
              [ (0, 8, params.failRestrict), (8, 8, params.failHalt),
                (16, 8, params.recoverCycles), (24, 8, params.alignAttempts) ]
          | 3 => pack [(0, 16, params.alignWindow), (16, 8, params.ungaugedLimit)]
          | 4 => pack [(0, 16, params.maxStep)]
          | 5 => pack [(0, 32, params.offsetLimit)]
          | _ => 0)) ∧
    (∀ (k : StationNo) (n : Fin 8),
      let e := s.descriptor k
      shows (0x200 + k.val * 32 + n.val * 4)
        (match n.val with
          | 0 =>
            pack
              [ (0, 8, e.role.code),
                (8, 8, (match e.reader with | some r => r.val | none => 0xFF)),
                (16, 8, e.authority.toNat), (24, 8, e.mode.code) ]
          | 1 => pack [(0, 16, e.ack), (16, 16, e.warn)]
          | 2 => pack [(0, 16, e.limit)]
          | _ => 0)) ∧
    (∀ (v : Fin 6) (n : Fin 4),
      let e := s.variantEntry v
      shows (0x600 + v.val * 16 + n.val * 4)
        (match n.val with
          | 0 => pack [(0, 16, e.code), (16, 8, e.ratio)]
          | 1 => pack [(0, 28, e.passes.toNat)]
          | _ => 0)) ∧
    (∀ (r : Fin 24) (n : Fin 2),
      let e := s.rule r
      shows (0x700 + r.val * 8 + n.val * 4)
        (match n.val with
          | 0 =>
            pack
              [ (0, 1, e.enabled.toNat), (1, 1, e.trap.toNat), (2, 1, (!e.signed).toNat),
                (8, 8, e.station.val), (16, 8, e.word.val), (24, 8, e.width.code) ]
          | _ => pack [(0, 8, e.op.code)])) ∧
    ([.setup, .prepared, .aligning, .producing, .restricted, .stopped, .tripped].map
          LineState.code = List.range 7 ∧
      [.none, .tripCommand, .estop, .driveFault, .indexTimeout, .clearLost, .mapConflict,
          .controllerReset].map TripCause.code = List.range 8 ∧
      [.noRead, .matched, .uncertain, .corrected, .conflict].map TagOutcome.code =
          List.range 5 ∧
      [.notInState, .indexInFlight, .stopPending, .held, .estopActive, .driveFaulted,
          .transferNotAtRest, .stationEngaged, .stationNotClear, .returnFull, .overrideRequired,
          .tagPending, .uncertainEntry, .emptyStation, .blockState, .variantPass, .stationState,
          .palletState, .location, .badArgument, .resolvePending, .gaugeLate, .gaugeMismatch,
          .patchOverflow, .partialPatch, .malformed, .unknownCommand, .badConfig, .readOnly,
          .noStation, .misaligned, .imageError].map Cause.code = List.range 32 ∧
      [.noAck, .overrun, .tagMismatch, .tagMissing, .uncertainMoved, .presenceMismatch,
          .patchOverflow, .unloadMissed].map CycleFault.bit = List.range 8 ∧
      [.refused, .reportOverrun, .stateChange, .cycleFailed, .indexDone, .slowIndex, .stationWarn,
          .overrun, .noAck, .captureOverwrite, .tagMismatch, .presenceMismatch, .patchOverflow,
          .stepLimited, .quarantined, .alignAborted, .alignCorrected, .estop, .driveFault,
          .imageError, .imageTimeout, .indexDropped].map Flag.bit = List.range 22 ∧
      [.read, .write].map Kind.code = List.range 2 ∧
      [.out, .inService, .quarantine].map Service.code = List.range 3 ∧
      [.empty, .inWork, .reject].map Block.code = List.range 3 ∧
      [.predicted, .confirmed, .uncertain].map Status.code = List.range 3 ∧
      [.load, .machine, .gauge, .unload].map Role.code = List.range 4 ∧
      [.auto, .forcePresent, .forceAbsent].map PresenceMode.code = List.range 3 ∧
      [.byte, .half, .word].map Width.code = List.range 3 ∧
      [.addX, .addY, .addZ, .subX, .subY, .subZ, .scale].map PatchOp.code = List.range 7)

/-- Forwarding: a transaction that stands ARRIVED goes out once no response is owed, the response timer from 0; an admitted START engages its station, an overflowing patch sets its flag and fault, and nothing else changes. While a response is owed nothing is forwarded. With nothing arrived, the record empty or forwarded already, nothing happens (R61, R153, R161, R162; the last is the model's reading, log 6). -/
def Obligations.Forwarded : Prop :=
  ∀ s : State,
    (∀ t : Transaction, s.classifier.record = some t → t.stage = .arrived →
      s.classifier.stale = false →
        let out : State :=
          { s with
            classifier :=
              { s.classifier with
                record := some { t with stage := .forwarded }
                timer := { count := 0, running := true } } }
        exec .transactionForward s =
          .next
            (match t.treatment with
              | .cycleStart k casting =>
                out.setStation k
                  { s.station k with
                    engagement := some { casting := casting, acknowledged := false }
                    budget := 0, budgetDue := false, warn := false, noAck := false,
                    limit := false }
              | .patch true => (out.addFault .patchOverflow).raise .patchOverflow
              | .patch false | .pass | .snoop | .overlay | .redirect => out)) ∧
    (s.classifier.stale = true ∨ s.classifier.record = none ∨
        (∃ t, s.classifier.record = some t ∧ t.stage = .forwarded) →
      exec .transactionForward s = .next s)

/-- ERROR from the memory: the host receives ERROR, an IMAGE_ERROR refusal is recorded with the flag, no effect is taken; a START's engagement, if it still stands, is withdrawn with its unit at 0, and its report carries the station and its entry's pallet. Any report carries the station and its entry's pallet for a command window or a view of a station of the line, none elsewhere and outside the image (R62, R159, R163, R190; read at the refusal, log 13, the roving view as the view of its station, log 14). At the second tick boundary after forwarding the transaction ends: an IMAGE_ERROR refusal, IMAGE_ERROR and IMAGE_TIMEOUT, an engagement withdrawn, and the stale indication set; before it nothing happens (R62, R164; log 6). -/
def Obligations.ResponseFailures : Prop :=
  (∀ (s : State) (t : Transaction), s.awaits t →
    ((∀ k casting, t.treatment ≠ .cycleStart k casting) →
      exec .imageResponseError s =
        .next
          ((s.raise .imageError).refuse t.kind t.outside t.offset .imageError
            (s.portPlace t.outside t.offset))) ∧
    ∀ k casting, t.treatment = .cycleStart k casting → t.outside = false →
      t.offset = BitVec.ofNat 16 (0x2000 + k.val * 256) → s.inLine k = true →
        let withdrawn : State :=
          if (s.station k).engagement = none then s
          else
            s.setStation k
              { s.station k with engagement := none, budget := 0, budgetDue := false }
        exec .imageResponseError s =
          .next
            ((withdrawn.raise .imageError).refuse t.kind false t.offset .imageError
              ⟨some (StationNo.wide k), (s.entry k).pallet⟩)) ∧
  ∀ (s : State) (t : Transaction), s.awaits t →
    (s.classifier.timer = { count := 2, running := true } →
      let withdrawn : State :=
        match t.treatment with
        | .cycleStart k _ =>
          if (s.station k).engagement = none then s
          else
            s.setStation k
              { s.station k with engagement := none, budget := 0, budgetDue := false }
        | _ => s
      let ended : State :=
        ((withdrawn.raise .imageTimeout).raise .imageError).refuse t.kind t.outside t.offset
          .imageError (s.portPlace t.outside t.offset)
      exec .imageResponseTimeout s =
        .next { ended with classifier := { ended.classifier with stale := true } }) ∧
    (s.classifier.timer.count < 2 → exec .imageResponseTimeout s = .next s)

/-- A port that is not free. A host command that arrives while a transaction is in progress, and a response that nobody waits for, stop by name (the model's faults, logs 4 and 5; so does one still owed from before a power-on reset, the model's choice, log 33). While a response is owed, a host command that would be taken in is refused IMAGE_ERROR with the flag and no IMAGE_TIMEOUT, inside the line image and outside it, with the place R159 gives its window (log 14); the owed response is discarded and frees the port, whichever response command brings it (R159, R161, R163, R165; the last is the model's reading, log 7). -/
def Obligations.PortNotFree : Prop :=
  (∀ (i : Instr) (s : State), hostCommand i = true → s.classifier.record ≠ none →
    exec i s = .fault .hostPortBusy) ∧
  (∀ (s : State) (d : Word), s.classifier.stale = false →
    exec .staleResponseDiscard s = .fault .responseNotOwed ∧
      ((∀ t, s.classifier.record = some t → t.stage = .arrived) →
        exec (.imageResponseOk d) s = .fault .responseNotOwed ∧
          exec .imageResponseError s = .fault .responseNotOwed)) ∧
  ∀ (s : State) (i : Instr) (r : Transaction) (d : Word), s.classifier.stale = true →
    let freed : State := { s with classifier := { s.classifier with stale := false } }
    (hostCommand i = true → s.classifier.record = none → exec i freed = .next (freed.holdRecord r) →
      exec i s =
        .next
          ((s.raise .imageError).refuse r.kind r.outside r.offset .imageError
            (s.portPlace r.outside r.offset))) ∧
    (hostCommand i = true → s.classifier.record = none →
      ∀ kind o cause place, exec i freed = .next (freed.refuse kind false o cause place) →
        exec i s = .next (s.refuse kind false o cause place)) ∧
    exec .staleResponseDiscard s = .next freed ∧
    exec (.imageResponseOk d) s = .next freed ∧
    exec .imageResponseError s = .next freed

/-! ### The index completion -/

/-- The rise of the at-rest input during an index that has seen motion is its completion: the timer stops, its count is captured with overwritten following the valid it finds, INDEX_DONE is set, the gate is IDLE with the permit deasserted, every engagement ends with its unit at 0, and every enable of the line is asserted again. A rise at any other time sets the input alone (R41, R45, R46, R75, R81); during an index that has seen no motion, where R41 says that none can arrive, that is the model's choice (log 8). -/
def Obligations.CompletionGateAndStations : Prop :=
  ∀ s : State,
    (s.gate.state = .indexing → s.gate.motionSeen = true → 3 ≤ s.stationCount →
      (s.line.state = .producing ∨ s.line.state = .restricted) →
        ∃ t, exec .atRestRise s = .next t ∧
          t.gate =
            { s.gate with
              state := .idle, motionSeen := false, permit := false
              timer := { s.gate.timer with running := false, due := false }
              capture :=
                { value := s.gate.timer.count, valid := true
                  overwritten := s.gate.capture.valid } } ∧
          t.pins = { s.pins with atRest := true } ∧
          t.monitor.held = s.monitor.held ∧
          (∀ k, t.station k =
            { s.station k with
              engagement := none, budget := 0, budgetDue := false, enable := s.inLine k }) ∧
          t.hasFlag .indexDone = true ∧
          t.hasFlag .captureOverwrite = (s.hasFlag .captureOverwrite || s.gate.capture.valid) ∧
          (∀ f, f ∉ [.indexDone, .captureOverwrite, .presenceMismatch, .quarantined, .cycleFailed,
              .stateChange] → t.hasFlag f = s.hasFlag f) ∧
          t.flagUnit = { s.flagUnit with flags := t.flagUnit.flags } ∧
          t =
            { s with
              tracking := t.tracking, gate := t.gate, monitor := t.monitor, line := t.line
              flagUnit := t.flagUnit, pins := t.pins }) ∧
    (s.gate.state = .idle ∨ s.gate.motionSeen = false →
      exec .atRestRise s = .next { s with pins := { s.pins with atRest := true } })

/-- At a completion the account takes the map shift, then each entry of the line that disagrees with the effective presence of its station becomes UNCERTAIN, an empty one that agrees CONFIRMED, with PRESENCE_MISMATCH set on any disagreement, and the ungauged accounting follows (R26, R27, R48, R80, R118, R119, R138). -/
def Obligations.CompletionMap : Prop :=
  ∀ s : State, s.gate.state = .indexing → s.gate.motionSeen = true → 3 ≤ s.stationCount →
    (s.line.state = .producing ∨ s.line.state = .restricted) →
      let shifted := s.mapShift
      let accounted := shifted.ungaugedAccounting s.gaugedPallet
      let present (k : StationNo) : Bool :=
        match (s.descriptor k).mode with
        | .auto => (s.station k).presence.filtered
        | .forcePresent => true
        | .forceAbsent => false
      let disagrees (k : StationNo) : Prop :=
        s.inLine k = true ∧ (shifted.entry k).pallet.isSome ≠ present k
      ∃ t, exec .atRestRise s = .next t ∧
        (∀ k, t.entry k =
          if s.inLine k = false then s.entry k
          else if disagrees k then { shifted.entry k with status := .uncertain }
          else if (shifted.entry k).pallet = none then { shifted.entry k with status := .confirmed }
          else shifted.entry k) ∧
        (∀ p, t.pallet p = accounted.pallet p) ∧
        t.tracking.queue = accounted.tracking.queue ∧
        t.hasFlag .presenceMismatch =
          (s.hasFlag .presenceMismatch || decide (∃ k, disagrees k)) ∧
        t.hasFlag .quarantined = accounted.hasFlag .quarantined

/-- Cycle evaluation at a completion: the cycle failed if its fault set, with UNLOAD_MISSED and PRESENCE_MISMATCH of this completion, is not empty. The counts and the line state follow, the set moves to the last cycle fault set and starts empty, the cycle number advances past 255 to 0, and STOP_PENDING is then applied (R100, R102, R103, R104, R105, R106). -/
def Obligations.CompletionCycle : Prop :=
  ∀ s : State, s.gate.state = .indexing → s.gate.motionSeen = true → 3 ≤ s.stationCount →
    (s.line.state = .producing ∨ s.line.state = .restricted) →
      let missed : Bool :=
        match (s.entry s.unloadStation).pallet with
        | some u => (s.pallet u).block != .empty
        | none => false
      let mismatch : Prop :=
        ∃ k, s.inLine k = true ∧ (s.mapShift.entry k).pallet.isSome ≠ s.present k
      let ending : BitVec 8 :=
        s.line.current ||| (if missed then 0x80 else 0) ||| (if mismatch then 0x20 else 0)
      let count : Nat :=
        if s.line.failed + 1 ≤ s.config.params.failHalt then s.line.failed + 1
        else s.config.params.failHalt
      let restricted : Bool := s.line.state == .restricted
      let judged : LineState × Nat × Nat :=
        if ending = 0 then
          if restricted = false then (.producing, 0, s.line.clean)
          else if s.line.clean + 1 = s.config.params.recoverCycles then (.producing, 0, 0)
          else (.restricted, 0, s.line.clean + 1)
        else if s.config.params.failHalt ≤ count then
          (.stopped, count, if restricted = true then 0 else s.line.clean)
        else if restricted = true ∨ s.config.params.failRestrict ≤ count then
          (.restricted, count, 0)
        else (.producing, count, s.line.clean)
      ∃ t, exec .atRestRise s = .next t ∧
        t.line =
          { state := if s.line.stopPending = true then .stopped else judged.1
            tripCause := s.line.tripCause
            stopPending := false
            failed := judged.2.1
            clean := judged.2.2
            cycle := BitVec.ofNat 8 ((s.line.cycle.toNat + 1) % 256)
            current := 0
            last := ending } ∧
        t.hasFlag .cycleFailed = (s.hasFlag .cycleFailed || decide (ending ≠ 0)) ∧
        t.hasFlag .stateChange = (s.hasFlag .stateChange || decide (t.line.state ≠ s.line.state))

/-! ### Field inputs -/

/-- The at-rest input's fall sets motion-seen during an index; the drive-fault input's rise sets DRIVE_FAULT and trips during an index; the emergency stop sets ESTOP and claims a trip; controller reset abandons the transaction in progress, leaves its response owed where it had been forwarded, and trips from ALIGNING, PRODUCING, RESTRICTED and STOPPED. The opposite edges set their input alone (R41, R42, R96, R97, R166; an edge taken whatever level stood is the model's choice, log 8, and so is that a drive fault taken after the completion does not trip, as R42 says and R49 does not, log 32). -/
def Obligations.InputEdges : Prop :=
  ∀ s : State,
    let risen : State := { s with pins := { s.pins with driveFault := true } }
    let active : State := { s with pins := { s.pins with estop := true } }
    let abandoned : State :=
      { s with
        pins := { s.pins with controllerReset := true }
        classifier :=
          match s.classifier.record with
          | none => s.classifier
          | some t =>
            { s.classifier with
              record := none, reply := .none
              timer := { s.classifier.timer with running := false }
              stale := s.classifier.stale || t.stage == .forwarded } }
    exec .atRestFall s =
        .next
          { s with
            pins := { s.pins with atRest := false }
            gate :=
              { s.gate with motionSeen := s.gate.motionSeen || s.gate.state == .indexing } } ∧
      exec .driveFaultRise s =
        .next
          (if s.gate.state = .indexing then (risen.raise .driveFault).trip .driveFault
          else risen.raise .driveFault) ∧
      exec .driveFaultFall s = .next { s with pins := { s.pins with driveFault := false } } ∧
      exec .estopActive s = .next ((active.raise .estop).trip .estop) ∧
      exec .estopInactive s = .next { s with pins := { s.pins with estop := false } } ∧
      exec .controllerResetAssert s =
        .next
          (if s.line.state = .aligning ∨ s.line.state = .producing ∨ s.line.state = .restricted ∨
              s.line.state = .stopped then
            abandoned.trip .controllerReset
          else abandoned) ∧
      exec .controllerResetDeassert s =
        .next { s with pins := { s.pins with controllerReset := false } }

/-- Power-on reset gives every register, table, indication and output its power-on value, samples the straps, takes the effective inputs from the levels found, and sets ESTOP and DRIVE_FAULT where their inputs are found active; the input levels and the queue stay. From State.reset, with the straps low, it leaves State.reset (R7, R10, R30, R56, R84, R108, R128, R145, R157, R176, R190; the levels State.reset holds, and the inputs and queue kept, are the model's choice, logs 10 and 11). -/
def Obligations.PowerOnReset : Prop :=
  (∀ (s : State) (straps : BitVec 16), ∃ t, exec (.powerOnReset straps) s = .next t ∧
    t.classifier =
      { base := straps, record := none, timer := { count := 0, running := false }, stale := false
        drop := { valid := false, offset := 0, cause := .notInState, cycle := 0 }
        selector := 0, reply := .none } ∧
    (∀ p, t.pallet p =
      { service := .out, variant := 0, block := .empty, offset := ⟨0, 0, 0⟩, ungauged := 0
        laps := 0, lost := false, gauged := false }) ∧
    (∀ k, t.entry k = { pallet := none, status := .confirmed }) ∧
    t.tracking.queue = [] ∧
    t.gate =
      { state := .idle, motionSeen := false, timer := { count := 0, running := false, due := false }
        capture := { value := 0, valid := false, overwritten := false }
        frozen := false, permit := false } ∧
    t.monitor.held = false ∧
    (∀ k, t.station k =
      { engagement := none, budget := 0, budgetDue := false, warn := false, noAck := false
        limit := false, capture := { value := 0, valid := false, overwritten := false }
        clear :=
          { level := (s.station k).clear.level, filtered := (s.station k).clear.level
            filter := .idle }
        presence :=
          { level := (s.station k).presence.level, filtered := (s.station k).presence.level
            filter := .idle }
        enable := false }) ∧
    t.line =
      { state := .setup, tripCause := .none, stopPending := false, failed := 0, clean := 0
        cycle := 0, current := 0, last := 0 } ∧
    t.identity =
      { tag := none, remaining := 0, timer := { count := 0, running := false, due := false }
        corrected := false, aborted := false } ∧
    t.compensation = ⟨0, 0, 0⟩ ∧
    (∀ r, t.rule r =
      { enabled := false, station := 0, word := 1, width := .word, signed := true, op := .addX
        trap := false }) ∧
    t.config.params =
      { stationCount := 3, returnCap := 36, variantCount := 1, filterMs := 5, indexSlow := 8000
        indexLimit := 15000, failRestrict := 3, failHalt := 6, recoverCycles := 10
        alignAttempts := 3, alignWindow := 10000, ungaugedLimit := 4, maxStep := 50
        offsetLimit := 500 } ∧
    (∀ k, t.descriptor k =
      { role := if k = 0 then .load else if k = 2 then .unload else .machine
        reader := if k = 0 then some 0 else none
        authority := false, mode := .auto, ack := 1000, warn := 30000, limit := 60000 }) ∧
    (∀ v, t.variantEntry v = { code := 0, ratio := 100, passes := 0 }) ∧
    (∀ f, t.hasFlag f =
      match f with
      | .estop => s.pins.estop
      | .driveFault => s.pins.driveFault
      | _ => false) ∧
    t.flagUnit =
      { flags := t.flagUnit.flags, enables := 0, refusals := 0
        report :=
          { cause := .notInState, kind := .read, outside := false, offset := 0, station := none
            pallet := none, cycle := 0 } } ∧
    t.pins = s.pins ∧ t.pending = s.pending) ∧
  exec (.powerOnReset 0) State.reset = .next State.reset

/-- The filters: a level already there changes nothing (log 9); a new level becomes pending with a held count of 0, or with FILTER_MS 0 the effective value at once; the effective level coming back discards the pending one; a pending level whose boundary has come becomes the effective value, before it nothing. Stated whole for presence inputs, from which nothing else follows, and for clear inputs where the effective value stays (R79, R119; the boundary that is due is the model's own, log 3). -/
def Obligations.Filters : Prop :=
  ∀ (s : State) (k : StationNo) (level : Bool),
    let moved (l : InputLine) : InputLine :=
      { level := level
        filtered := if s.config.params.filterMs = 0 then level else l.filtered
        filter :=
          if level = l.filtered ∨ s.config.params.filterMs = 0 then .idle
          else .pending level 0 false }
    let presence := (s.station k).presence
    let clear := (s.station k).clear
    exec (.presenceInputChange k level) s =
        .next
          (if level = presence.level then s
          else s.setStation k { s.station k with presence := moved presence }) ∧
      exec (.filterSettle k .presence) s =
        .next
          (match presence.filter with
            | .pending v _ true =>
              s.setStation k
                { s.station k with presence := ⟨presence.level, v, .idle⟩ }
            | _ => s) ∧
      (level = clear.level → exec (.clearInputChange k level) s = .next s) ∧
      (level ≠ clear.level → level = clear.filtered ∨ s.config.params.filterMs ≠ 0 →
        exec (.clearInputChange k level) s =
          .next (s.setStation k { s.station k with clear := moved clear })) ∧
      (clear.filter.isDue = false → exec (.filterSettle k .clear) s = .next s)

/-- A change of effective clear, at once with FILTER_MS 0 or by its filter. A fall during an index at a station of the line trips with CLEAR_LOST, and acknowledges an engagement. A rise of an engaged, acknowledged station completes it: the capture takes the unit's count, overwritten follows the valid it finds, the engagement ends with the count kept, and the entry's pallet becomes EMPTY at the unload station, IN_WORK at the load station with CASTING. Any other rise does nothing more (R43, R65, R67, R68, R69; the boundary that is due is the model's own, log 3; a fall taken after the completion does not trip, as R43 says and R49 does not, the model's choice, log 32). -/
def Obligations.ClearEvents : Prop :=
  ∀ (s : State) (k : StationNo),
    let changes (i : Instr) (line : InputLine) (effective : Bool) : Prop :=
      let moved : State := s.setStation k { s.station k with clear := line }
      let fallen : State :=
        if s.gate.state = .indexing ∧ s.inLine k = true then moved.trip .clearLost else moved
      match effective, (s.station k).engagement with
      | false, none => exec i s = .next fallen
      | false, some e =>
        exec i s =
          .next
            (fallen.setStation k
              { fallen.station k with engagement := some { e with acknowledged := true } })
      | true, none => exec i s = .next moved
      | true, some e =>
        if e.acknowledged = false then exec i s = .next moved
        else
          let ended : State :=
            (s.setStation k
              { s.station k with
                clear := line, engagement := none, budgetDue := false
                capture :=
                  { value := (s.station k).budget, valid := true
                    overwritten := (s.station k).capture.valid } }).raiseIf
              (s.station k).capture.valid .captureOverwrite
          (∀ p, (s.entry k).pallet = some p → k = s.unloadStation →
            exec i s = .next (ended.setPallet p { s.pallet p with block := .empty })) ∧
          (∀ p, (s.entry k).pallet = some p → k ≠ s.unloadStation → k = 0 → e.casting = true →
            exec i s = .next (ended.setPallet p { s.pallet p with block := .inWork })) ∧
          ((s.entry k).pallet = none ∨
              (k ≠ s.unloadStation ∧ (k ≠ 0 ∨ e.casting = false)) →
            exec i s = .next ended)
    let clear := (s.station k).clear
    (∀ level, s.config.params.filterMs = 0 → level ≠ clear.level → level ≠ clear.filtered →
      changes (.clearInputChange k level) ⟨level, level, .idle⟩ level) ∧
    (∀ v held, clear.filter = .pending v held true → v ≠ clear.filtered →
      changes (.filterSettle k .clear) ⟨clear.level, v, .idle⟩ v)

/-! ### Time -/

/-- A tick boundary. What is still due from the last one is taken first, by the steps that take it in the model's order (log 3): the response limit, the filters, the index timer, the budget units, the align timer; with nothing due they leave the state. Then every running counter counts one, and one that would reach a mark is due instead, to be taken by the mark's own step (the model's choice, log 3); the held counts of pending levels rise and are due at FILTER_MS. A stopped counter keeps its count. A tick always answers a next state (R39, R64, R79, R121, R164). -/
def Obligations.Tick : Prop :=
  (∀ s, ∃ t, exec .timeBaseTick s = .next t) ∧
  ∀ before : State, ∃ s : State, Runs dueSteps before s ∧ (before.nothingDue → s = before) ∧
    let ticked (t : MarkTimer) (atMark : Nat → Bool) : MarkTimer :=
      if t.running = false then t
      else if atMark (t.count + 1) = true then { t with due := true }
      else { t with count := t.count + 1 }
    let held (l : InputLine) : InputLine :=
      match l.filter with
      | .idle => l
      | .pending v n _ =>
        { l with
          filter := .pending v (n + 1) (decide (s.config.params.filterMs ≤ n + 1)) }
    exec .timeBaseTick before =
      .next
        { s with
          gate :=
            { s.gate with
              timer := ticked s.gate.timer fun n =>
                n == s.config.params.indexSlow || n == s.config.params.indexLimit }
          identity :=
            { s.identity with
              timer := ticked s.identity.timer fun n => n == s.config.params.alignWindow }
          classifier :=
            { s.classifier with
              timer :=
                { s.classifier.timer with
                  count :=
                    if s.classifier.timer.running = true ∧ s.classifier.timer.count < 2 then
                      s.classifier.timer.count + 1
                    else s.classifier.timer.count } }
          monitor :=
            { s.monitor with
              stations := Vector.ofFn fun k =>
                let st := s.station k
                let d := s.descriptor k
                let runs : Prop :=
                  st.engagement ≠ none ∧ st.budget < d.limit ∧ s.monitor.held = false ∧
                    s.line.state ≠ .tripped
                let marked : Prop :=
                  st.budget + 1 = d.ack ∨ st.budget + 1 = d.warn ∨ st.budget + 1 = d.limit
                { st with
                  clear := held st.clear
                  presence := held st.presence
                  budget := if runs ∧ ¬marked then st.budget + 1 else st.budget
                  budgetDue := if runs ∧ marked then true else st.budgetDue } } }

/-- A boundary due at which the index timer reaches INDEX_SLOW sets SLOW_INDEX, and at INDEX_LIMIT claims a trip with INDEX_TIMEOUT; equal marks both apply at one boundary. At ALIGN_WINDOW the attempt fails: one fewer remains, and the next starts with UNCERTAIN reader entries PREDICTED again, or at the last the line enters STOPPED with ALIGN_ABORTED. With no boundary due nothing happens (R39, R40, R121, R123, R124; the boundary that is due is the model's own, log 3; the INDEX_LIMIT boundary of an index completed first does not trip, as R40 says and R49 does not, the model's choice, log 32). -/
def Obligations.IndexMarksAndAlignWindow : Prop :=
  ∀ s : State,
    (s.gate.timer.running = true → s.gate.timer.due = true →
      let n := s.gate.timer.count + 1
      let counted : State :=
        { s with gate := { s.gate with timer := { count := n, running := true, due := false } } }
      let slowed : State :=
        if n = s.config.params.indexSlow then counted.raise .slowIndex else counted
      let marked : State :=
        if n = s.config.params.indexLimit then slowed.trip .indexTimeout else slowed
      exec .indexSlowMark s = .next (if n = s.config.params.indexSlow then marked else s) ∧
        exec .indexLimitMark s = .next (if n = s.config.params.indexLimit then marked else s)) ∧
    (s.gate.timer.running = false ∨ s.gate.timer.due = false →
      exec .indexSlowMark s = .next s ∧ exec .indexLimitMark s = .next s) ∧
    (s.identity.timer.running = true → s.identity.timer.due = true → s.line.state = .aligning →
      let failed : State :=
        { s with
          identity :=
            { s.identity with
              remaining := s.identity.remaining - 1
              timer := { count := s.identity.timer.count + 1, running := false, due := false } } }
      (s.identity.remaining ≤ 1 →
        exec .alignWindowExpiry s =
          .next
            (({ failed with identity := { failed.identity with aborted := true } }.raise
              .alignAborted).enterLine .stopped)) ∧
      (2 ≤ s.identity.remaining →
        (∃ k, s.isReaderStation k = true ∧ (s.entry k).pallet ≠ none ∧
          (s.entry k).status ≠ .confirmed) →
        exec .alignWindowExpiry s =
          .next
            { failed with
              identity :=
                { failed.identity with timer := { count := 0, running := true, due := false } }
              tracking :=
                { s.tracking with
                  map := Vector.ofFn fun k =>
                    if s.isReaderStation k = true ∧ (s.entry k).pallet ≠ none ∧
                        (s.entry k).status = .uncertain then
                      { s.entry k with status := .predicted }
                    else s.entry k } })) ∧
    (s.identity.timer.running = false ∨ s.identity.timer.due = false →
      exec .alignWindowExpiry s = .next s)

/-- A boundary due at which a running budget unit reaches a mark: its count rises, and each mark reached applies. ACK ends an engagement not acknowledged, with NO_ACK as indication, fault and flag; WARN sets its indication and STATION_WARN; LIMIT sets its indication and OVERRUN as fault and flag. With no boundary due, or at another count, nothing happens (R64, R65, R66; the boundary that is due is the model's own, log 3). -/
def Obligations.BudgetMarks : Prop :=
  ∀ (s : State) (k : StationNo),
    let st := s.station k
    let d := s.descriptor k
    let n := st.budget + 1
    (∀ e : Engagement, st.engagement = some e → st.budget < d.limit → s.monitor.held = false →
      s.line.state ≠ .tripped → st.budgetDue = true →
        let missed : Bool := n == d.ack && !e.acknowledged
        let counted : State :=
          s.setStation k
            { st with
              budget := n, budgetDue := false
              engagement := if missed then none else some e
              noAck := st.noAck || missed
              warn := st.warn || n == d.warn
              limit := st.limit || n == d.limit }
        let flagged : State :=
          ((counted.raiseIf (n == d.warn) .stationWarn).raiseIf (n == d.limit) .overrun).raiseIf
            missed .noAck
        let marked : State :=
          (flagged.addFaultIf (n == d.limit) .overrun).addFaultIf missed .noAck
        exec (.ackMark k) s = .next (if n = d.ack then marked else s) ∧
          exec (.warnMark k) s = .next (if n = d.warn then marked else s) ∧
          exec (.limitMark k) s = .next (if n = d.limit then marked else s)) ∧
    (st.budgetDue = false →
      exec (.ackMark k) s = .next s ∧ exec (.warnMark k) s = .next s ∧
        exec (.limitMark k) s = .next s)

/-! ### The standing laws -/

/-- The standing laws hold in State.reset, the state after power-on reset on a quiet line (whose input levels are the model's choice, log 10). -/
def Obligations.ResetMeetsLaws : Prop :=
  GateLaw State.reset ∧ ConfigLaw State.reset ∧ AccountLaw State.reset ∧ CountLaw State.reset ∧
    EngagementLaw State.reset

/-- Every step keeps the permit, the timers, STOP_PENDING, motion-seen, FROZEN_MID_INDEX and the enable outputs agreed with the line state and the index state (R31, R41, R51, R81, R91, R121; the due bit of a stopped timer is the model's own, log 3). -/
def Obligations.GateLawKept : Prop :=
  ∀ s t : State, GateLaw s → step s = .next t → GateLaw t

/-- Every step keeps the configuration inside the ranges of R177 to R179 and no two enabled rules on one word (R146, R177, R178, R179). -/
def Obligations.ConfigLawKept : Prop :=
  ∀ s t : State, ConfigLaw s → step s = .next t → ConfigLaw t

/-- Every step keeps the laws of the pallet account: each pallet number stands at most once on the map and in the queue, exactly the pallets that are not OUT stand there, and the queue stays within RETURN_CAP and holds no QUARANTINE pallet (R12). -/
def Obligations.AccountLawKept : Prop :=
  ∀ s t : State, GateLaw s → ConfigLaw s → AccountLaw s → step s = .next t → AccountLaw t

/-- Every step keeps the failed count within FAIL_LIMIT_HALT and the clean count below RECOVER_CYCLES (R105). -/
def Obligations.CountLawKept : Prop :=
  ∀ s t : State, GateLaw s → ConfigLaw s → CountLaw s → step s = .next t → CountLaw t

/-- Every step keeps the law that no station is engaged while an index is in flight (R44). -/
def Obligations.EngagementLawKept : Prop :=
  ∀ s t : State, GateLaw s → EngagementLaw s → step s = .next t → EngagementLaw t
end

