-- ==== Sys2Proof/Laws/State.lean ====
section
/-! SUPPORT. What each named update of State leaves alone: one equation per block of state. -/

namespace Sys2Proof.Machine

variable (s : State)

@[simp] theorem State.raise_classifier (f : Flag) : (s.raise f).classifier = s.classifier := rfl
@[simp] theorem State.raise_tracking (f : Flag) : (s.raise f).tracking = s.tracking := rfl
@[simp] theorem State.raise_gate (f : Flag) : (s.raise f).gate = s.gate := rfl
@[simp] theorem State.raise_monitor (f : Flag) : (s.raise f).monitor = s.monitor := rfl
@[simp] theorem State.raise_line (f : Flag) : (s.raise f).line = s.line := rfl
@[simp] theorem State.raise_identity (f : Flag) : (s.raise f).identity = s.identity := rfl
@[simp] theorem State.raise_compensation (f : Flag) : (s.raise f).compensation = s.compensation := rfl
@[simp] theorem State.raise_patch (f : Flag) : (s.raise f).patch = s.patch := rfl
@[simp] theorem State.raise_config (f : Flag) : (s.raise f).config = s.config := rfl
@[simp] theorem State.raise_pins (f : Flag) : (s.raise f).pins = s.pins := rfl
@[simp] theorem State.raise_pending (f : Flag) : (s.raise f).pending = s.pending := rfl

@[simp] theorem State.raiseIf_classifier (c : Bool) (f : Flag) : (s.raiseIf c f).classifier = s.classifier := by
  cases c <;> rfl
@[simp] theorem State.raiseIf_tracking (c : Bool) (f : Flag) : (s.raiseIf c f).tracking = s.tracking := by
  cases c <;> rfl
@[simp] theorem State.raiseIf_gate (c : Bool) (f : Flag) : (s.raiseIf c f).gate = s.gate := by
  cases c <;> rfl
@[simp] theorem State.raiseIf_monitor (c : Bool) (f : Flag) : (s.raiseIf c f).monitor = s.monitor := by
  cases c <;> rfl
@[simp] theorem State.raiseIf_line (c : Bool) (f : Flag) : (s.raiseIf c f).line = s.line := by
  cases c <;> rfl
@[simp] theorem State.raiseIf_identity (c : Bool) (f : Flag) : (s.raiseIf c f).identity = s.identity := by
  cases c <;> rfl
@[simp] theorem State.raiseIf_compensation (c : Bool) (f : Flag) : (s.raiseIf c f).compensation = s.compensation := by
  cases c <;> rfl
@[simp] theorem State.raiseIf_patch (c : Bool) (f : Flag) : (s.raiseIf c f).patch = s.patch := by
  cases c <;> rfl
@[simp] theorem State.raiseIf_config (c : Bool) (f : Flag) : (s.raiseIf c f).config = s.config := by
  cases c <;> rfl
@[simp] theorem State.raiseIf_pins (c : Bool) (f : Flag) : (s.raiseIf c f).pins = s.pins := by
  cases c <;> rfl
@[simp] theorem State.raiseIf_pending (c : Bool) (f : Flag) : (s.raiseIf c f).pending = s.pending := by
  cases c <;> rfl

@[simp] theorem State.clearFlags_classifier (w : Word) : (s.clearFlags w).classifier = s.classifier := rfl
@[simp] theorem State.clearFlags_tracking (w : Word) : (s.clearFlags w).tracking = s.tracking := rfl
@[simp] theorem State.clearFlags_gate (w : Word) : (s.clearFlags w).gate = s.gate := rfl
@[simp] theorem State.clearFlags_monitor (w : Word) : (s.clearFlags w).monitor = s.monitor := rfl
@[simp] theorem State.clearFlags_line (w : Word) : (s.clearFlags w).line = s.line := rfl
@[simp] theorem State.clearFlags_identity (w : Word) : (s.clearFlags w).identity = s.identity := rfl
@[simp] theorem State.clearFlags_compensation (w : Word) : (s.clearFlags w).compensation = s.compensation := rfl
@[simp] theorem State.clearFlags_patch (w : Word) : (s.clearFlags w).patch = s.patch := rfl
@[simp] theorem State.clearFlags_config (w : Word) : (s.clearFlags w).config = s.config := rfl
@[simp] theorem State.clearFlags_pins (w : Word) : (s.clearFlags w).pins = s.pins := rfl
@[simp] theorem State.clearFlags_pending (w : Word) : (s.clearFlags w).pending = s.pending := rfl

@[simp] theorem State.addFault_classifier (f : CycleFault) : (s.addFault f).classifier = s.classifier := rfl
@[simp] theorem State.addFault_tracking (f : CycleFault) : (s.addFault f).tracking = s.tracking := rfl
@[simp] theorem State.addFault_gate (f : CycleFault) : (s.addFault f).gate = s.gate := rfl
@[simp] theorem State.addFault_monitor (f : CycleFault) : (s.addFault f).monitor = s.monitor := rfl
@[simp] theorem State.addFault_identity (f : CycleFault) : (s.addFault f).identity = s.identity := rfl
@[simp] theorem State.addFault_compensation (f : CycleFault) : (s.addFault f).compensation = s.compensation := rfl
@[simp] theorem State.addFault_patch (f : CycleFault) : (s.addFault f).patch = s.patch := rfl
@[simp] theorem State.addFault_config (f : CycleFault) : (s.addFault f).config = s.config := rfl
@[simp] theorem State.addFault_flagUnit (f : CycleFault) : (s.addFault f).flagUnit = s.flagUnit := rfl
@[simp] theorem State.addFault_pins (f : CycleFault) : (s.addFault f).pins = s.pins := rfl
@[simp] theorem State.addFault_pending (f : CycleFault) : (s.addFault f).pending = s.pending := rfl

@[simp] theorem State.addFaultIf_classifier (c : Bool) (f : CycleFault) : (s.addFaultIf c f).classifier = s.classifier := by
  cases c <;> rfl
@[simp] theorem State.addFaultIf_tracking (c : Bool) (f : CycleFault) : (s.addFaultIf c f).tracking = s.tracking := by
  cases c <;> rfl
@[simp] theorem State.addFaultIf_gate (c : Bool) (f : CycleFault) : (s.addFaultIf c f).gate = s.gate := by
  cases c <;> rfl
@[simp] theorem State.addFaultIf_monitor (c : Bool) (f : CycleFault) : (s.addFaultIf c f).monitor = s.monitor := by
  cases c <;> rfl
@[simp] theorem State.addFaultIf_identity (c : Bool) (f : CycleFault) : (s.addFaultIf c f).identity = s.identity := by
  cases c <;> rfl
@[simp] theorem State.addFaultIf_compensation (c : Bool) (f : CycleFault) : (s.addFaultIf c f).compensation = s.compensation := by
  cases c <;> rfl
@[simp] theorem State.addFaultIf_patch (c : Bool) (f : CycleFault) : (s.addFaultIf c f).patch = s.patch := by
  cases c <;> rfl
@[simp] theorem State.addFaultIf_config (c : Bool) (f : CycleFault) : (s.addFaultIf c f).config = s.config := by
  cases c <;> rfl
@[simp] theorem State.addFaultIf_flagUnit (c : Bool) (f : CycleFault) : (s.addFaultIf c f).flagUnit = s.flagUnit := by
  cases c <;> rfl
@[simp] theorem State.addFaultIf_pins (c : Bool) (f : CycleFault) : (s.addFaultIf c f).pins = s.pins := by
  cases c <;> rfl
@[simp] theorem State.addFaultIf_pending (c : Bool) (f : CycleFault) : (s.addFaultIf c f).pending = s.pending := by
  cases c <;> rfl

@[simp] theorem State.recordRefusal_classifier (r : RefusalReport) : (s.recordRefusal r).classifier = s.classifier := by
  simp only [State.recordRefusal, State.raiseIf]; split <;> rfl
@[simp] theorem State.recordRefusal_tracking (r : RefusalReport) : (s.recordRefusal r).tracking = s.tracking := by
  simp only [State.recordRefusal, State.raiseIf]; split <;> rfl
@[simp] theorem State.recordRefusal_gate (r : RefusalReport) : (s.recordRefusal r).gate = s.gate := by
  simp only [State.recordRefusal, State.raiseIf]; split <;> rfl
@[simp] theorem State.recordRefusal_monitor (r : RefusalReport) : (s.recordRefusal r).monitor = s.monitor := by
  simp only [State.recordRefusal, State.raiseIf]; split <;> rfl
@[simp] theorem State.recordRefusal_line (r : RefusalReport) : (s.recordRefusal r).line = s.line := by
  simp only [State.recordRefusal, State.raiseIf]; split <;> rfl
@[simp] theorem State.recordRefusal_identity (r : RefusalReport) : (s.recordRefusal r).identity = s.identity := by
  simp only [State.recordRefusal, State.raiseIf]; split <;> rfl
@[simp] theorem State.recordRefusal_compensation (r : RefusalReport) : (s.recordRefusal r).compensation = s.compensation := by
  simp only [State.recordRefusal, State.raiseIf]; split <;> rfl
@[simp] theorem State.recordRefusal_patch (r : RefusalReport) : (s.recordRefusal r).patch = s.patch := by
  simp only [State.recordRefusal, State.raiseIf]; split <;> rfl
@[simp] theorem State.recordRefusal_config (r : RefusalReport) : (s.recordRefusal r).config = s.config := by
  simp only [State.recordRefusal, State.raiseIf]; split <;> rfl
@[simp] theorem State.recordRefusal_pins (r : RefusalReport) : (s.recordRefusal r).pins = s.pins := by
  simp only [State.recordRefusal, State.raiseIf]; split <;> rfl
@[simp] theorem State.recordRefusal_pending (r : RefusalReport) : (s.recordRefusal r).pending = s.pending := by
  simp only [State.recordRefusal, State.raiseIf]; split <;> rfl

@[simp] theorem State.setEntry_classifier (k : StationNo) (e : MapEntry) : (s.setEntry k e).classifier = s.classifier := rfl
@[simp] theorem State.setEntry_gate (k : StationNo) (e : MapEntry) : (s.setEntry k e).gate = s.gate := rfl
@[simp] theorem State.setEntry_monitor (k : StationNo) (e : MapEntry) : (s.setEntry k e).monitor = s.monitor := rfl
@[simp] theorem State.setEntry_line (k : StationNo) (e : MapEntry) : (s.setEntry k e).line = s.line := rfl
@[simp] theorem State.setEntry_identity (k : StationNo) (e : MapEntry) : (s.setEntry k e).identity = s.identity := rfl
@[simp] theorem State.setEntry_compensation (k : StationNo) (e : MapEntry) : (s.setEntry k e).compensation = s.compensation := rfl
@[simp] theorem State.setEntry_patch (k : StationNo) (e : MapEntry) : (s.setEntry k e).patch = s.patch := rfl
@[simp] theorem State.setEntry_config (k : StationNo) (e : MapEntry) : (s.setEntry k e).config = s.config := rfl
@[simp] theorem State.setEntry_flagUnit (k : StationNo) (e : MapEntry) : (s.setEntry k e).flagUnit = s.flagUnit := rfl
@[simp] theorem State.setEntry_pins (k : StationNo) (e : MapEntry) : (s.setEntry k e).pins = s.pins := rfl
@[simp] theorem State.setEntry_pending (k : StationNo) (e : MapEntry) : (s.setEntry k e).pending = s.pending := rfl

@[simp] theorem State.setPallet_classifier (p : PalletNo) (r : Pallet) : (s.setPallet p r).classifier = s.classifier := rfl
@[simp] theorem State.setPallet_gate (p : PalletNo) (r : Pallet) : (s.setPallet p r).gate = s.gate := rfl
@[simp] theorem State.setPallet_monitor (p : PalletNo) (r : Pallet) : (s.setPallet p r).monitor = s.monitor := rfl
@[simp] theorem State.setPallet_line (p : PalletNo) (r : Pallet) : (s.setPallet p r).line = s.line := rfl
@[simp] theorem State.setPallet_identity (p : PalletNo) (r : Pallet) : (s.setPallet p r).identity = s.identity := rfl
@[simp] theorem State.setPallet_compensation (p : PalletNo) (r : Pallet) : (s.setPallet p r).compensation = s.compensation := rfl
@[simp] theorem State.setPallet_patch (p : PalletNo) (r : Pallet) : (s.setPallet p r).patch = s.patch := rfl
@[simp] theorem State.setPallet_config (p : PalletNo) (r : Pallet) : (s.setPallet p r).config = s.config := rfl
@[simp] theorem State.setPallet_flagUnit (p : PalletNo) (r : Pallet) : (s.setPallet p r).flagUnit = s.flagUnit := rfl
@[simp] theorem State.setPallet_pins (p : PalletNo) (r : Pallet) : (s.setPallet p r).pins = s.pins := rfl
@[simp] theorem State.setPallet_pending (p : PalletNo) (r : Pallet) : (s.setPallet p r).pending = s.pending := rfl

@[simp] theorem State.setQueue_classifier (q : List PalletNo) : (s.setQueue q).classifier = s.classifier := rfl
@[simp] theorem State.setQueue_gate (q : List PalletNo) : (s.setQueue q).gate = s.gate := rfl
@[simp] theorem State.setQueue_monitor (q : List PalletNo) : (s.setQueue q).monitor = s.monitor := rfl
@[simp] theorem State.setQueue_line (q : List PalletNo) : (s.setQueue q).line = s.line := rfl
@[simp] theorem State.setQueue_identity (q : List PalletNo) : (s.setQueue q).identity = s.identity := rfl
@[simp] theorem State.setQueue_compensation (q : List PalletNo) : (s.setQueue q).compensation = s.compensation := rfl
@[simp] theorem State.setQueue_patch (q : List PalletNo) : (s.setQueue q).patch = s.patch := rfl
@[simp] theorem State.setQueue_config (q : List PalletNo) : (s.setQueue q).config = s.config := rfl
@[simp] theorem State.setQueue_flagUnit (q : List PalletNo) : (s.setQueue q).flagUnit = s.flagUnit := rfl
@[simp] theorem State.setQueue_pins (q : List PalletNo) : (s.setQueue q).pins = s.pins := rfl
@[simp] theorem State.setQueue_pending (q : List PalletNo) : (s.setQueue q).pending = s.pending := rfl

@[simp] theorem State.setStation_classifier (k : StationNo) (st : Station) : (s.setStation k st).classifier = s.classifier := rfl
@[simp] theorem State.setStation_tracking (k : StationNo) (st : Station) : (s.setStation k st).tracking = s.tracking := rfl
@[simp] theorem State.setStation_gate (k : StationNo) (st : Station) : (s.setStation k st).gate = s.gate := rfl
@[simp] theorem State.setStation_line (k : StationNo) (st : Station) : (s.setStation k st).line = s.line := rfl
@[simp] theorem State.setStation_identity (k : StationNo) (st : Station) : (s.setStation k st).identity = s.identity := rfl
@[simp] theorem State.setStation_compensation (k : StationNo) (st : Station) : (s.setStation k st).compensation = s.compensation := rfl
@[simp] theorem State.setStation_patch (k : StationNo) (st : Station) : (s.setStation k st).patch = s.patch := rfl
@[simp] theorem State.setStation_config (k : StationNo) (st : Station) : (s.setStation k st).config = s.config := rfl
@[simp] theorem State.setStation_flagUnit (k : StationNo) (st : Station) : (s.setStation k st).flagUnit = s.flagUnit := rfl
@[simp] theorem State.setStation_pins (k : StationNo) (st : Station) : (s.setStation k st).pins = s.pins := rfl
@[simp] theorem State.setStation_pending (k : StationNo) (st : Station) : (s.setStation k st).pending = s.pending := rfl

@[simp] theorem State.mapStations_classifier (f : StationNo → Station → Station) : (s.mapStations f).classifier = s.classifier := by simp only [State.mapStations]
@[simp] theorem State.mapStations_tracking (f : StationNo → Station → Station) : (s.mapStations f).tracking = s.tracking := by simp only [State.mapStations]
@[simp] theorem State.mapStations_gate (f : StationNo → Station → Station) : (s.mapStations f).gate = s.gate := by simp only [State.mapStations]
@[simp] theorem State.mapStations_line (f : StationNo → Station → Station) : (s.mapStations f).line = s.line := by simp only [State.mapStations]
@[simp] theorem State.mapStations_identity (f : StationNo → Station → Station) : (s.mapStations f).identity = s.identity := by simp only [State.mapStations]
@[simp] theorem State.mapStations_compensation (f : StationNo → Station → Station) : (s.mapStations f).compensation = s.compensation := by simp only [State.mapStations]
@[simp] theorem State.mapStations_patch (f : StationNo → Station → Station) : (s.mapStations f).patch = s.patch := by simp only [State.mapStations]
@[simp] theorem State.mapStations_config (f : StationNo → Station → Station) : (s.mapStations f).config = s.config := by simp only [State.mapStations]
@[simp] theorem State.mapStations_flagUnit (f : StationNo → Station → Station) : (s.mapStations f).flagUnit = s.flagUnit := by simp only [State.mapStations]
@[simp] theorem State.mapStations_pins (f : StationNo → Station → Station) : (s.mapStations f).pins = s.pins := by simp only [State.mapStations]
@[simp] theorem State.mapStations_pending (f : StationNo → Station → Station) : (s.mapStations f).pending = s.pending := by simp only [State.mapStations]

@[simp] theorem State.refreshEnables_classifier : s.refreshEnables.classifier = s.classifier := by simp only [State.refreshEnables, State.mapStations_classifier]
@[simp] theorem State.refreshEnables_tracking : s.refreshEnables.tracking = s.tracking := by simp only [State.refreshEnables, State.mapStations_tracking]
@[simp] theorem State.refreshEnables_gate : s.refreshEnables.gate = s.gate := by simp only [State.refreshEnables, State.mapStations_gate]
@[simp] theorem State.refreshEnables_line : s.refreshEnables.line = s.line := by simp only [State.refreshEnables, State.mapStations_line]
@[simp] theorem State.refreshEnables_identity : s.refreshEnables.identity = s.identity := by simp only [State.refreshEnables, State.mapStations_identity]
@[simp] theorem State.refreshEnables_compensation : s.refreshEnables.compensation = s.compensation := by simp only [State.refreshEnables, State.mapStations_compensation]
@[simp] theorem State.refreshEnables_patch : s.refreshEnables.patch = s.patch := by simp only [State.refreshEnables, State.mapStations_patch]
@[simp] theorem State.refreshEnables_config : s.refreshEnables.config = s.config := by simp only [State.refreshEnables, State.mapStations_config]
@[simp] theorem State.refreshEnables_flagUnit : s.refreshEnables.flagUnit = s.flagUnit := by simp only [State.refreshEnables, State.mapStations_flagUnit]
@[simp] theorem State.refreshEnables_pins : s.refreshEnables.pins = s.pins := by simp only [State.refreshEnables, State.mapStations_pins]
@[simp] theorem State.refreshEnables_pending : s.refreshEnables.pending = s.pending := by simp only [State.refreshEnables, State.mapStations_pending]

@[simp] theorem State.stopUnits_classifier : s.stopUnits.classifier = s.classifier := by simp only [State.stopUnits, State.mapStations_classifier]
@[simp] theorem State.stopUnits_tracking : s.stopUnits.tracking = s.tracking := by simp only [State.stopUnits, State.mapStations_tracking]
@[simp] theorem State.stopUnits_gate : s.stopUnits.gate = s.gate := by simp only [State.stopUnits, State.mapStations_gate]
@[simp] theorem State.stopUnits_line : s.stopUnits.line = s.line := by simp only [State.stopUnits, State.mapStations_line]
@[simp] theorem State.stopUnits_identity : s.stopUnits.identity = s.identity := by simp only [State.stopUnits, State.mapStations_identity]
@[simp] theorem State.stopUnits_compensation : s.stopUnits.compensation = s.compensation := by simp only [State.stopUnits, State.mapStations_compensation]
@[simp] theorem State.stopUnits_patch : s.stopUnits.patch = s.patch := by simp only [State.stopUnits, State.mapStations_patch]
@[simp] theorem State.stopUnits_config : s.stopUnits.config = s.config := by simp only [State.stopUnits, State.mapStations_config]
@[simp] theorem State.stopUnits_flagUnit : s.stopUnits.flagUnit = s.flagUnit := by simp only [State.stopUnits, State.mapStations_flagUnit]
@[simp] theorem State.stopUnits_pins : s.stopUnits.pins = s.pins := by simp only [State.stopUnits, State.mapStations_pins]
@[simp] theorem State.stopUnits_pending : s.stopUnits.pending = s.pending := by simp only [State.stopUnits, State.mapStations_pending]

@[simp] theorem State.enterLine_classifier (l : LineState) : (s.enterLine l).classifier = s.classifier := by simp [State.enterLine]
@[simp] theorem State.enterLine_tracking (l : LineState) : (s.enterLine l).tracking = s.tracking := by simp [State.enterLine]
@[simp] theorem State.enterLine_gate (l : LineState) : (s.enterLine l).gate = s.gate := by simp [State.enterLine]
@[simp] theorem State.enterLine_identity (l : LineState) : (s.enterLine l).identity = s.identity := by simp [State.enterLine]
@[simp] theorem State.enterLine_compensation (l : LineState) : (s.enterLine l).compensation = s.compensation := by simp [State.enterLine]
@[simp] theorem State.enterLine_patch (l : LineState) : (s.enterLine l).patch = s.patch := by simp [State.enterLine]
@[simp] theorem State.enterLine_config (l : LineState) : (s.enterLine l).config = s.config := by simp [State.enterLine]
@[simp] theorem State.enterLine_pins (l : LineState) : (s.enterLine l).pins = s.pins := by simp [State.enterLine]
@[simp] theorem State.enterLine_pending (l : LineState) : (s.enterLine l).pending = s.pending := by simp [State.enterLine]

@[simp] theorem State.abandonIndex_classifier : s.abandonIndex.classifier = s.classifier := rfl
@[simp] theorem State.abandonIndex_tracking : s.abandonIndex.tracking = s.tracking := rfl
@[simp] theorem State.abandonIndex_monitor : s.abandonIndex.monitor = s.monitor := rfl
@[simp] theorem State.abandonIndex_line : s.abandonIndex.line = s.line := rfl
@[simp] theorem State.abandonIndex_identity : s.abandonIndex.identity = s.identity := rfl
@[simp] theorem State.abandonIndex_compensation : s.abandonIndex.compensation = s.compensation := rfl
@[simp] theorem State.abandonIndex_patch : s.abandonIndex.patch = s.patch := rfl
@[simp] theorem State.abandonIndex_config : s.abandonIndex.config = s.config := rfl
@[simp] theorem State.abandonIndex_flagUnit : s.abandonIndex.flagUnit = s.flagUnit := rfl
@[simp] theorem State.abandonIndex_pins : s.abandonIndex.pins = s.pins := rfl
@[simp] theorem State.abandonIndex_pending : s.abandonIndex.pending = s.pending := rfl

@[simp] theorem State.endAlignment_classifier : s.endAlignment.classifier = s.classifier := rfl
@[simp] theorem State.endAlignment_tracking : s.endAlignment.tracking = s.tracking := rfl
@[simp] theorem State.endAlignment_gate : s.endAlignment.gate = s.gate := rfl
@[simp] theorem State.endAlignment_monitor : s.endAlignment.monitor = s.monitor := rfl
@[simp] theorem State.endAlignment_line : s.endAlignment.line = s.line := rfl
@[simp] theorem State.endAlignment_compensation : s.endAlignment.compensation = s.compensation := rfl
@[simp] theorem State.endAlignment_patch : s.endAlignment.patch = s.patch := rfl
@[simp] theorem State.endAlignment_config : s.endAlignment.config = s.config := rfl
@[simp] theorem State.endAlignment_flagUnit : s.endAlignment.flagUnit = s.flagUnit := rfl
@[simp] theorem State.endAlignment_pins : s.endAlignment.pins = s.pins := rfl
@[simp] theorem State.endAlignment_pending : s.endAlignment.pending = s.pending := rfl

@[simp] theorem State.trip_classifier (c : TripCause) : (s.trip c).classifier = s.classifier := by
  simp only [State.trip]; split; · rfl
  split <;> split <;> simp
@[simp] theorem State.trip_tracking (c : TripCause) : (s.trip c).tracking = s.tracking := by
  simp only [State.trip]; split; · rfl
  split <;> split <;> simp
@[simp] theorem State.trip_compensation (c : TripCause) : (s.trip c).compensation = s.compensation := by
  simp only [State.trip]; split; · rfl
  split <;> split <;> simp
@[simp] theorem State.trip_patch (c : TripCause) : (s.trip c).patch = s.patch := by
  simp only [State.trip]; split; · rfl
  split <;> split <;> simp
@[simp] theorem State.trip_config (c : TripCause) : (s.trip c).config = s.config := by
  simp only [State.trip]; split; · rfl
  split <;> split <;> simp
@[simp] theorem State.trip_pins (c : TripCause) : (s.trip c).pins = s.pins := by
  simp only [State.trip]; split; · rfl
  split <;> split <;> simp
@[simp] theorem State.trip_pending (c : TripCause) : (s.trip c).pending = s.pending := by
  simp only [State.trip]; split; · rfl
  split <;> split <;> simp

@[simp] theorem State.answer_tracking (r : Reply) : (s.answer r).tracking = s.tracking := rfl
@[simp] theorem State.answer_gate (r : Reply) : (s.answer r).gate = s.gate := rfl
@[simp] theorem State.answer_monitor (r : Reply) : (s.answer r).monitor = s.monitor := rfl
@[simp] theorem State.answer_line (r : Reply) : (s.answer r).line = s.line := rfl
@[simp] theorem State.answer_identity (r : Reply) : (s.answer r).identity = s.identity := rfl
@[simp] theorem State.answer_compensation (r : Reply) : (s.answer r).compensation = s.compensation := rfl
@[simp] theorem State.answer_patch (r : Reply) : (s.answer r).patch = s.patch := rfl
@[simp] theorem State.answer_config (r : Reply) : (s.answer r).config = s.config := rfl
@[simp] theorem State.answer_flagUnit (r : Reply) : (s.answer r).flagUnit = s.flagUnit := rfl
@[simp] theorem State.answer_pins (r : Reply) : (s.answer r).pins = s.pins := rfl
@[simp] theorem State.answer_pending (r : Reply) : (s.answer r).pending = s.pending := rfl

@[simp] theorem State.holdRecord_tracking (t : Transaction) : (s.holdRecord t).tracking = s.tracking := rfl
@[simp] theorem State.holdRecord_gate (t : Transaction) : (s.holdRecord t).gate = s.gate := rfl
@[simp] theorem State.holdRecord_monitor (t : Transaction) : (s.holdRecord t).monitor = s.monitor := rfl
@[simp] theorem State.holdRecord_line (t : Transaction) : (s.holdRecord t).line = s.line := rfl
@[simp] theorem State.holdRecord_identity (t : Transaction) : (s.holdRecord t).identity = s.identity := rfl
@[simp] theorem State.holdRecord_compensation (t : Transaction) : (s.holdRecord t).compensation = s.compensation := rfl
@[simp] theorem State.holdRecord_patch (t : Transaction) : (s.holdRecord t).patch = s.patch := rfl
@[simp] theorem State.holdRecord_config (t : Transaction) : (s.holdRecord t).config = s.config := rfl
@[simp] theorem State.holdRecord_flagUnit (t : Transaction) : (s.holdRecord t).flagUnit = s.flagUnit := rfl
@[simp] theorem State.holdRecord_pins (t : Transaction) : (s.holdRecord t).pins = s.pins := rfl
@[simp] theorem State.holdRecord_pending (t : Transaction) : (s.holdRecord t).pending = s.pending := rfl

@[simp] theorem State.drop_tracking (o : Offset) (c : Cause) : (s.drop o c).tracking = s.tracking := rfl
@[simp] theorem State.drop_gate (o : Offset) (c : Cause) : (s.drop o c).gate = s.gate := rfl
@[simp] theorem State.drop_monitor (o : Offset) (c : Cause) : (s.drop o c).monitor = s.monitor := rfl
@[simp] theorem State.drop_line (o : Offset) (c : Cause) : (s.drop o c).line = s.line := rfl
@[simp] theorem State.drop_identity (o : Offset) (c : Cause) : (s.drop o c).identity = s.identity := rfl
@[simp] theorem State.drop_compensation (o : Offset) (c : Cause) : (s.drop o c).compensation = s.compensation := rfl
@[simp] theorem State.drop_patch (o : Offset) (c : Cause) : (s.drop o c).patch = s.patch := rfl
@[simp] theorem State.drop_config (o : Offset) (c : Cause) : (s.drop o c).config = s.config := rfl
@[simp] theorem State.drop_flagUnit (o : Offset) (c : Cause) : (s.drop o c).flagUnit = s.flagUnit := rfl
@[simp] theorem State.drop_pins (o : Offset) (c : Cause) : (s.drop o c).pins = s.pins := rfl
@[simp] theorem State.drop_pending (o : Offset) (c : Cause) : (s.drop o c).pending = s.pending := rfl

@[simp] theorem State.withPending_classifier (q : List Instr) : (s.withPending q).classifier = s.classifier := rfl
@[simp] theorem State.withPending_tracking (q : List Instr) : (s.withPending q).tracking = s.tracking := rfl
@[simp] theorem State.withPending_gate (q : List Instr) : (s.withPending q).gate = s.gate := rfl
@[simp] theorem State.withPending_monitor (q : List Instr) : (s.withPending q).monitor = s.monitor := rfl
@[simp] theorem State.withPending_line (q : List Instr) : (s.withPending q).line = s.line := rfl
@[simp] theorem State.withPending_identity (q : List Instr) : (s.withPending q).identity = s.identity := rfl
@[simp] theorem State.withPending_compensation (q : List Instr) : (s.withPending q).compensation = s.compensation := rfl
@[simp] theorem State.withPending_patch (q : List Instr) : (s.withPending q).patch = s.patch := rfl
@[simp] theorem State.withPending_config (q : List Instr) : (s.withPending q).config = s.config := rfl
@[simp] theorem State.withPending_flagUnit (q : List Instr) : (s.withPending q).flagUnit = s.flagUnit := rfl
@[simp] theorem State.withPending_pins (q : List Instr) : (s.withPending q).pins = s.pins := rfl

end Sys2Proof.Machine
end

