-- ==== Sys2Proof/Laws/Ops.lean ====
section
/-! SUPPORT. What each shared operation over State can do: reading after writing, the order of checks, the entry to a line state and a trip. -/

namespace Sys2Proof.Machine

/-- All checks pass exactly when none names a cause. -/
theorem firstFailure_eq_none (l : List (Bool × Cause)) :
    firstFailure l = none ↔ ∀ x ∈ l, x.1 = true := by
  induction l with
  | nil => simp [firstFailure]
  | cons x l ih =>
    obtain ⟨passes, cause⟩ := x
    cases passes <;> simp [firstFailure, ih]

/-- A list of checks in front of others decides first. -/
theorem firstFailure_append (l m : List (Bool × Cause)) :
    firstFailure (l ++ m) = (firstFailure l).or (firstFailure m) := by
  induction l with
  | nil => simp [firstFailure]
  | cons x l ih =>
    obtain ⟨passes, cause⟩ := x
    cases passes <;> simp [firstFailure, ih]

/-- Two states agree where every block does, the map, the pallet table and the stations one by one. -/
theorem State.ext_parts {s t : State} (classifier : s.classifier = t.classifier)
    (entry : ∀ k, s.entry k = t.entry k) (pallet : ∀ p, s.pallet p = t.pallet p)
    (queue : s.tracking.queue = t.tracking.queue) (gate : s.gate = t.gate)
    (station : ∀ k, s.station k = t.station k) (held : s.monitor.held = t.monitor.held)
    (line : s.line = t.line) (identity : s.identity = t.identity)
    (compensation : s.compensation = t.compensation) (patch : s.patch = t.patch)
    (config : s.config = t.config) (flagUnit : s.flagUnit = t.flagUnit) (pins : s.pins = t.pins)
    (pending : s.pending = t.pending) : s = t := by
  obtain ⟨_, ⟨_, _, _⟩, _, ⟨_, _⟩, _, _, _, _, _, _, _, _⟩ := s
  obtain ⟨_, ⟨_, _, _⟩, _, ⟨_, _⟩, _, _, _, _, _, _, _, _⟩ := t
  simp only at *
  subst classifier queue gate held line identity compensation patch config flagUnit pins pending
  simp only [State.mk.injEq, Tracking.mk.injEq, Monitor.mk.injEq, true_and, and_true]
  refine ⟨⟨?_, ?_⟩, ?_⟩
  · exact Vector.ext fun i hi => pallet ⟨i, hi⟩
  · exact Vector.ext fun i hi => entry ⟨i, hi⟩
  · exact Vector.ext fun i hi => station ⟨i, hi⟩

variable (s : State)

/-! ### Reading after writing -/

@[simp] theorem State.entry_setEntry (k j : StationNo) (e : MapEntry) :
    (s.setEntry k e).entry j = if k = j then e else s.entry j := by
  simp only [State.entry, State.setEntry, Vector.getElem_set, Fin.ext_iff]

@[simp] theorem State.entry_setPallet (p : PalletNo) (r : Pallet) (k : StationNo) :
    (s.setPallet p r).entry k = s.entry k := rfl

@[simp] theorem State.entry_setQueue (q : List PalletNo) (k : StationNo) :
    (s.setQueue q).entry k = s.entry k := rfl

@[simp] theorem State.pallet_setPallet (p q : PalletNo) (r : Pallet) :
    (s.setPallet p r).pallet q = if p = q then r else s.pallet q := by
  simp only [State.pallet, State.setPallet, Vector.getElem_set, Fin.ext_iff]

@[simp] theorem State.pallet_setEntry (k : StationNo) (e : MapEntry) (p : PalletNo) :
    (s.setEntry k e).pallet p = s.pallet p := rfl

@[simp] theorem State.pallet_setQueue (q : List PalletNo) (p : PalletNo) :
    (s.setQueue q).pallet p = s.pallet p := rfl

@[simp] theorem State.queue_setPallet (p : PalletNo) (r : Pallet) :
    (s.setPallet p r).tracking.queue = s.tracking.queue := rfl

@[simp] theorem State.queue_setEntry (k : StationNo) (e : MapEntry) :
    (s.setEntry k e).tracking.queue = s.tracking.queue := rfl

@[simp] theorem State.queue_setQueue (q : List PalletNo) : (s.setQueue q).tracking.queue = q := rfl

@[simp] theorem State.station_setStation (k j : StationNo) (st : Station) :
    (s.setStation k st).station j = if k = j then st else s.station j := by
  simp only [State.station, State.setStation, Vector.getElem_set, Fin.ext_iff]

@[simp] theorem State.station_mapStations (f : StationNo → Station → Station) (k : StationNo) :
    (s.mapStations f).station k = f k (s.station k) := by
  simp only [State.station, State.mapStations, Vector.getElem_ofFn]

@[simp] theorem State.held_mapStations (f : StationNo → Station → Station) :
    (s.mapStations f).monitor.held = s.monitor.held := by simp only [State.mapStations]

@[simp] theorem State.held_refreshEnables : s.refreshEnables.monitor.held = s.monitor.held := by
  simp only [State.refreshEnables, State.held_mapStations]

@[simp] theorem State.station_refreshEnables (k : StationNo) :
    s.refreshEnables.station k = { s.station k with enable := s.enablePermitted k } := by
  simp only [State.refreshEnables, State.station_mapStations]

@[simp] theorem State.station_stopUnits (k : StationNo) :
    s.stopUnits.station k = { s.station k with budgetDue := false } := by
  simp only [State.stopUnits, State.station_mapStations]

/-! ### Flags and cycle faults -/

/-- The flags sit at different positions. -/
theorem Flag.bit_inj (f g : Flag) : f.bit = g.bit ↔ f = g := by cases f <;> cases g <;> decide

theorem Flag.bit_lt (f : Flag) : f.bit < 22 := by cases f <;> decide

/-- The cycle fault kinds sit at different positions. -/
theorem CycleFault.bit_inj (f g : CycleFault) : f.bit = g.bit ↔ f = g := by
  cases f <;> cases g <;> decide

theorem CycleFault.bit_lt (f : CycleFault) : f.bit < 8 := by cases f <;> decide

/-- A flag raised stands, and no other changes (R186). -/
@[simp] theorem State.hasFlag_raise (f g : Flag) :
    (s.raise f).hasFlag g = (s.hasFlag g || f == g) := by
  have hf := Flag.bit_lt f
  by_cases h : f = g
  · subst h; simp [State.hasFlag, State.raise, hf]
  · simp [State.hasFlag, State.raise, BitVec.getLsbD_twoPow, h, Flag.bit_inj]

/-- A kind added stands in the current set, and no other changes (R100). -/
@[simp] theorem State.hasFault_addFault (f g : CycleFault) :
    (s.addFault f).hasFault g = (s.hasFault g || f == g) := by
  have hf := CycleFault.bit_lt f
  by_cases h : f = g
  · subst h; simp [State.hasFault, State.addFault, hf]
  · simp [State.hasFault, State.addFault, BitVec.getLsbD_twoPow, h, CycleFault.bit_inj]

/-! ### Line states -/

@[simp] theorem State.line_enterLine (l : LineState) :
    (s.enterLine l).line =
      { s.line with state := l, stopPending := s.line.stopPending && !l.endsStop } := by
  simp [State.enterLine]

@[simp] theorem State.flagUnit_enterLine (l : LineState) :
    (s.enterLine l).flagUnit = (s.raiseIf (s.line.state != l) .stateChange).flagUnit := by
  simp [State.enterLine]

@[simp] theorem State.held_enterLine (l : LineState) :
    (s.enterLine l).monitor.held = s.monitor.held := by
  simp [State.enterLine]

@[simp] theorem State.station_enterLine (l : LineState) (k : StationNo) :
    (s.enterLine l).station k =
      { s.station k with
        enable := s.inLine k && l.permitsEnables && !s.indexing } := by
  rw [State.enterLine, State.station_refreshEnables]
  cases h : (s.line.state != l) <;> rfl

/-- A trip claim in SETUP or TRIPPED changes nothing (R93). -/
theorem State.trip_not_taken (c : TripCause) (h : s.lineIn [.setup, .tripped] = true) :
    s.trip c = s := by simp [State.trip, h]

end Sys2Proof.Machine
end

