-- ==== Sys2Proof/Laws/RoundTrip.lean ====
section
/-! SUPPORT. A host transaction from its arrival to the memory's OK: what each of the three steps leaves, for every treatment. -/

namespace Sys2Proof.Machine

theorem offsetOf_addressOf (s : State) (o : Offset) : offsetOf (s.addressOf o) = o := by
  show (s.classifier.base ++ o : BitVec (16 + 16)).extractLsb' 0 16 = o
  ext i hi
  simp only [BitVec.getElem_extractLsb', Nat.zero_add]
  exact BitVec.getLsbD_append.trans (by simp [hi])

variable (s : State)

/-- A transaction that arrives at a free port and is not refused stands ARRIVED (R159). -/
theorem arrive_forward (q : Request) (tr : Treatment) (target : Offset) (sent : Word)
    (hfree : s.portsFree) (hd : s.decide q = .forward tr target sent) :
    s.ifPortFree (s.arrive q) = .next (s.holdRecord (s.arrivedRecord q tr target sent)) := by
  obtain ⟨hrec, hstale⟩ := hfree
  simp [State.ifPortFree, State.arrive, hrec, hstale, hd]

/-- A transaction refused at arrival is answered ERROR at once (R159). -/
theorem arrive_refuse (q : Request) (cause : Cause) (place : Place)
    (hrec : s.classifier.record = none) (hd : s.decide q = .refuse cause place) :
    s.ifPortFree (s.arrive q) = .next (s.refuseArrival q.kind q.offset cause place) := by
  simp [State.ifPortFree, State.arrive, hrec, hd]

/-- A refusal other than a patch overflow is its report alone. -/
theorem refuseArrival_eq (kind : Kind) (o : Offset) (cause : Cause) (place : Place)
    (h : cause ≠ .patchOverflow) :
    s.refuseArrival kind o cause place = s.refuse kind false o cause place := by
  simp [State.refuseArrival, h]

/-- The state in which a forwarded transaction waits, its forward-time effects apart (R162). -/
def State.waiting (t : Transaction) (s : State) : State :=
  { s with classifier :=
    { s.classifier with
      record := some { t with stage := .forwarded }, timer := { count := 0, running := true },
      reply := .none } }

/-- What forwarding does to a transaction that stands ARRIVED at a free image port (R162). -/
theorem forward_arrived (t : Transaction) (hr : s.classifier.record = some t)
    (ht : t.stage = .arrived) (hs : s.classifier.stale = false) :
    s.forward = { t.forwardEffect s with classifier :=
      { (t.forwardEffect s).classifier with
        record := some { t with stage := .forwarded }
        timer := { count := 0, running := true } } } := by
  simp only [State.forward, hr, ht, hs]
  exact if_pos ⟨trivial, rfl⟩

/-- An image response goes to the transaction that waits for it (R163). -/
theorem onResponse_awaits (t : Transaction) (h : s.awaits t) (act : Transaction → State) :
    s.onResponse act = .next (act t) := by
  obtain ⟨hr, ht, hs⟩ := h
  simp [State.onResponse, hs, State.forwarded, hr, Option.filter, ht]

/-- The memory's OK to the transaction that waits (R163). -/
theorem responseOk_awaits (t : Transaction) (h : s.awaits t) (d : Word) :
    exec (.imageResponseOk d) s = .next (State.respondOk t d s) :=
  onResponse_awaits s t h _

/-- An address made of the base and an offset lies inside the line image (R157). -/
theorem insideImage_addressOf (s : State) (o : Offset) : s.insideImage (s.addressOf o) = true := by
  show decide ((s.classifier.base ++ o : BitVec (16 + 16)).extractLsb' 16 16 = _) = true
  rw [decide_eq_true_eq]
  ext i hi
  simp only [BitVec.getElem_extractLsb']
  exact BitVec.getLsbD_append.trans (by simp [BitVec.getLsbD_eq_getElem hi])

/-- A write at a bus address inside the line image is a write at its offset. -/
theorem hostWriteAddress_addressOf (o : Offset) (z : Size) (w : Word) :
    s.hostWriteAddress (s.addressOf o) z w = s.hostWrite o z w := by
  simp only [State.hostWriteAddress, insideImage_addressOf, offsetOf_addressOf, if_true]

/-- A read at a bus address inside the line image is a read at its offset. -/
theorem hostReadAddress_addressOf (o : Offset) (z : Size) :
    s.hostReadAddress (s.addressOf o) z = s.hostReadAt o z := by
  simp only [State.hostReadAddress, insideImage_addressOf, offsetOf_addressOf, if_true]

/-- A request inside the line image as the host presents it on the bus. -/
def State.onBus (s : State) (q : Request) : BusAccess :=
  { kind := q.kind, address := s.addressOf q.offset, size := q.size, data := q.data }

/-- The record of a request that goes out as presented. -/
theorem standing_onBus (q : Request) (tr : Treatment) :
    s.standing (s.onBus q) tr = s.arrivedRecord q tr q.offset q.data := by
  simp [State.standing, State.onBus, State.arrivedRecord, insideImage_addressOf]

/-- A command carried out as it presents itself completes. -/
theorem completes_of_carriedOut (i : Instr) (q : Request) (tr : Treatment) (d : Word) (t : State)
    (hp : s.presents i = some (s.onBus q)) (hr : tr ≠ .redirect) (hpatch : ∀ o, tr ≠ .patch o)
    (h : CarriedOut i (s.arrivedRecord q tr q.offset q.data) d s t) : Completes i d s t :=
  ⟨s.onBus q, tr, hp, hr, hpatch, by rwa [standing_onBus]⟩

/-- The three steps of a transaction: it stands ARRIVED, goes out with its forward-time effects, and is answered OK. -/
theorem carriedOut_arrived (i : Instr) (r : Transaction) (d : Word) (hfree : s.portsFree)
    (hr : r.stage = .arrived) (hx : exec i s = .next (s.holdRecord r)) (waiting : State)
    (hw : { r.forwardEffect (s.holdRecord r) with classifier :=
      { (r.forwardEffect (s.holdRecord r)).classifier with
        record := some { r with stage := .forwarded }
        timer := { count := 0, running := true } } } = waiting)
    (hs : waiting.classifier.stale = false)
    (hrec : waiting.classifier.record = some { r with stage := .forwarded }) :
    CarriedOut i r d s (State.respondOk { r with stage := .forwarded } d waiting) :=
  ⟨hx, waiting,
    congrArg Host.Outcome.next ((forward_arrived (s.holdRecord r) r rfl hr hfree.2).trans hw),
    responseOk_awaits waiting { r with stage := .forwarded } ⟨hrec, rfl, hs⟩ d⟩

/-- The three steps of a transaction without forward-time effects. -/
theorem carriedOut_plain (i : Instr) (q : Request) (tr : Treatment) (target : Offset)
    (sent d : Word) (hx : exec i s = s.ifPortFree (s.arrive q)) (hfree : s.portsFree)
    (hd : s.decide q = .forward tr target sent)
    (hplain : ∀ s', (s.arrivedRecord q tr target sent).forwardEffect s' = s') :
    CarriedOut i (s.arrivedRecord q tr target sent) d s
      (State.respondOk { s.arrivedRecord q tr target sent with stage := .forwarded } d
        (s.waiting (s.arrivedRecord q tr target sent))) :=
  carriedOut_arrived s i _ d hfree rfl (hx.trans (arrive_forward s q tr target sent hfree hd)) _
    (by rw [hplain]; rfl) hfree.2 rfl

theorem waiting_answer (t : Transaction) (r : Reply) : (s.waiting t).answer r = s.answered r := rfl

/-- A snooped write takes its effect at the OK (R167). -/
theorem completes_snoop (i : Instr) (q : Request) (d : Word)
    (hp : s.presents i = some (s.onBus q)) (hx : exec i s = s.ifPortFree (s.arrive q))
    (hfree : s.portsFree) (hk : q.kind = .write)
    (hd : s.decide q = .forward .snoop q.offset q.data) :
    Completes i d s ((s.answered .ok).snoopAtOk q.offset q.size q.data) := by
  have h := carriedOut_plain s i q .snoop q.offset q.data d hx hfree hd (fun _ => rfl)
  refine completes_of_carriedOut s i q .snoop d _ hp (by simp) (by simp) ?_
  simpa [State.respondOk, State.arrivedRecord, hk, waiting_answer, Transaction.offset,
    offsetOf_addressOf] using h

/-- A passed write goes out as it came, with no effect on the part (00, Passed). -/
theorem carriedOut_pass (i : Instr) (q : Request) (d : Word)
    (hx : exec i s = s.ifPortFree (s.arrive q)) (hfree : s.portsFree) (hk : q.kind = .write)
    (hd : s.decide q = .forward .pass q.offset q.data) :
    CarriedOut i (s.arrivedRecord q .pass q.offset q.data) d s (s.answered .ok) := by
  have h := carriedOut_plain s i q .pass q.offset q.data d hx hfree hd (fun _ => rfl)
  simpa [State.respondOk, State.arrivedRecord, hk, waiting_answer] using h

/-- A transaction outside the line image goes out as it came, and the memory's answer comes back (R157). -/
theorem carriedOut_outside (i : Instr) (kind : Kind) (a : Address) (z : Size) (w d : Word)
    (hx : exec i s = s.ifPortFree (s.arriveOutside kind a z w)) (hfree : s.portsFree) :
    CarriedOut i
      { kind := kind, address := a, outside := true, size := z, data := w, treatment := .pass,
        target := a, sent := w, decidedCause := none, stage := .arrived }
      d s (s.answered (match kind with | .write => .ok | .read => .okData (d &&& z.mask))) := by
  obtain ⟨hrec, hstale⟩ := hfree
  cases kind <;>
    exact carriedOut_arrived s i _ d ⟨hrec, hstale⟩ rfl
      (by rw [hx]; simp [State.ifPortFree, State.arriveOutside, hrec, hstale]) _ rfl hstale rfl

theorem completes_pass (i : Instr) (q : Request) (d : Word)
    (hp : s.presents i = some (s.onBus q)) (hx : exec i s = s.ifPortFree (s.arrive q))
    (hfree : s.portsFree) (hk : q.kind = .write)
    (hd : s.decide q = .forward .pass q.offset q.data) : Completes i d s (s.answered .ok) :=
  completes_of_carriedOut s i q .pass d _ hp (by simp) (by simp)
    (carriedOut_pass s i q d hx hfree hk hd)

/-- A redirected write has no effect on the part (R171). -/
theorem carriedOut_redirect_write (i : Instr) (q : Request) (target : Offset) (d : Word)
    (hx : exec i s = s.ifPortFree (s.arrive q)) (hfree : s.portsFree) (hk : q.kind = .write)
    (hd : s.decide q = .forward .redirect target q.data) :
    CarriedOut i (s.arrivedRecord q .redirect target q.data) d s (s.answered .ok) := by
  have h := carriedOut_plain s i q .redirect target q.data d hx hfree hd (fun _ => rfl)
  simpa [State.respondOk, State.arrivedRecord, hk, waiting_answer] using h

/-- A read that is passed or redirected returns the memory's data (R163). -/
theorem carriedOut_read (i : Instr) (q : Request) (tr : Treatment) (target : Offset) (d : Word)
    (hx : exec i s = s.ifPortFree (s.arrive q)) (hfree : s.portsFree) (hk : q.kind = .read)
    (htr : tr = .pass ∨ tr = .redirect) (hd : s.decide q = .forward tr target q.data) :
    CarriedOut i (s.arrivedRecord q tr target q.data) d s
      (s.answered (.okData (d &&& q.size.mask))) := by
  have h := carriedOut_plain s i q tr target q.data d hx hfree hd
    (fun _ => by rcases htr with rfl | rfl <;> rfl)
  rcases htr with rfl | rfl <;>
    simpa [State.respondOk, State.arrivedRecord, hk, waiting_answer] using h

/-- What a read shows does not depend on the transaction in progress. -/
theorem overlay_waiting (t : Transaction) (o : Offset) (z : Size) :
    (s.waiting t).overlay o z = s.overlay o z := by
  unfold State.overlay State.overlayWord
  split <;> rfl

/-- An overlaid read returns the part's value (R169). -/
theorem carriedOut_overlay (i : Instr) (q : Request) (d : Word)
    (hx : exec i s = s.ifPortFree (s.arrive q)) (hfree : s.portsFree) (hk : q.kind = .read)
    (hd : s.decide q = .forward .overlay q.offset q.data) :
    CarriedOut i (s.arrivedRecord q .overlay q.offset q.data) d s
      (s.answered (.okData (s.overlay q.offset q.size))) := by
  have h := carriedOut_plain s i q .overlay q.offset q.data d hx hfree hd (fun _ => rfl)
  simpa [State.respondOk, State.arrivedRecord, hk, waiting_answer, Transaction.offset,
    offsetOf_addressOf, overlay_waiting] using h

theorem completes_overlay (i : Instr) (q : Request) (d : Word)
    (hp : s.presents i = some (s.onBus q)) (hx : exec i s = s.ifPortFree (s.arrive q))
    (hfree : s.portsFree) (hk : q.kind = .read)
    (hd : s.decide q = .forward .overlay q.offset q.data) :
    Completes i d s (s.answered (.okData (s.overlay q.offset q.size))) :=
  completes_of_carriedOut s i q .overlay d _ hp (by simp) (by simp)
    (carriedOut_overlay s i q d hx hfree hk hd)

/-- An admitted START engages its station at forwarding, and the OK leaves it so (R61, R62). -/
theorem completes_cycleStart (i : Instr) (q : Request) (k : StationNo) (casting : Bool) (d : Word)
    (hp : s.presents i = some (s.onBus q)) (hx : exec i s = s.ifPortFree (s.arrive q))
    (hfree : s.portsFree) (hk : q.kind = .write)
    (hd : s.decide q = .forward (.cycleStart k casting) q.offset q.data) :
    Completes i d s ((s.answered .ok).engage k casting) := by
  refine completes_of_carriedOut s i q (.cycleStart k casting) d _ hp (by simp) (by simp) ?_
  obtain ⟨kind, o, z, w⟩ := q
  subst hk
  exact carriedOut_arrived s i _ d hfree rfl (hx.trans (arrive_forward s _ _ _ _ hfree hd)) _ rfl
    hfree.2 rfl

/-- A patched write that overflows with trap off sets its flag and fault at forwarding (R153). -/
theorem carriedOut_patch (i : Instr) (q : Request) (overflowed : Bool) (sent d : Word)
    (hx : exec i s = s.ifPortFree (s.arrive q)) (hfree : s.portsFree) (hk : q.kind = .write)
    (hd : s.decide q = .forward (.patch overflowed) q.offset sent) :
    CarriedOut i (s.arrivedRecord q (.patch overflowed) q.offset sent) d s
      (((s.answered .ok).addFaultIf overflowed .patchOverflow).raiseIf overflowed .patchOverflow) := by
  obtain ⟨kind, o, z, w⟩ := q
  subst hk
  cases overflowed <;>
    exact carriedOut_arrived s i _ d hfree rfl (hx.trans (arrive_forward s _ _ _ _ hfree hd)) _ rfl
      hfree.2 rfl

end Sys2Proof.Machine
end

