-- ==== Sys2Proof/Laws/Words.lean ====
section
/-! SUPPORT. The words the host writes read back as what they were written for, and every command's offset falls in its window. -/

namespace Sys2Proof.Machine

/-- A 4-byte access carries the whole word. -/
@[simp] theorem four_mask (w : Word) : w &&& Size.four.mask = w := by
  simp only [Size.mask]
  exact BitVec.and_allOnes

/-- Fields within their widths read back from the word they make. -/
theorem gateFields_word (f : GateFields) (hc : f.code < 32) (hp : f.pallet < 64)
    (hs : f.station < 32) (hd : f.dest < 2) (hv : f.variant < 8) (ho : f.outcome < 4) :
    gateFields f.word = f ∧ gateSpareZero f.word = true := by
  obtain ⟨code, pallet, station, dest, variant, outcome⟩ := f
  simp only [gateFields, GateFields.word, gateSpareZero, bits, BitVec.toNat_ofNat,
    GateFields.mk.injEq, Bool.and_eq_true, decide_eq_true_eq] at *
  omega

/-- A command's fields name the command. -/
theorem GateCommand.command_fields (c : GateCommand) : c.fields.command = some c := by
  cases c with
  | insert p v d => cases d <;> simp [GateCommand.fields, GateFields.command, GateFields.ofCode]
  | _ => simp [GateCommand.fields, GateFields.command, GateFields.ofCode]

/-- A command's fields are within their widths. -/
theorem GateCommand.fields_lt (c : GateCommand) :
    c.fields.code < 32 ∧ c.fields.pallet < 64 ∧ c.fields.station < 32 ∧ c.fields.dest < 2 ∧
      c.fields.variant < 8 ∧ c.fields.outcome < 4 := by
  cases c with
  | insert p v d =>
    cases d <;> simp only [GateCommand.fields, GateFields.ofCode] <;> omega
  | _ => simp only [GateCommand.fields, GateFields.ofCode] <;> omega

/-- A word whose fields name a command, with every other bit zero, is the command. -/
theorem readGateCommand_of_fields (w : Word) (c : GateCommand) (hf : gateFields w = c.fields)
    (hz : gateSpareZero w = true) : readGateCommand w = .ok c := by
  simp [readGateCommand, hf, hz, c.command_fields]

/-- Every command's word reads back as the command (R173). -/
theorem readGateCommand_word (c : GateCommand) : readGateCommand c.fields.word = .ok c := by
  obtain ⟨h1, h2, h3, h4, h5, h6⟩ := c.fields_lt
  obtain ⟨hf, hz⟩ := gateFields_word c.fields h1 h2 h3 h4 h5 h6
  exact readGateCommand_of_fields _ c hf hz

/-- The code and option bit of the transfer command word read back (R32). -/
theorem readTransfer_codeWord (request option : Bool) :
    readTransfer (codeWord request option) = some (request, option) := by
  cases request <;> cases option <;> decide

/-- The code and CASTING of a cycle-start word read back (R58). -/
theorem readCycleStart_codeWord (request option : Bool) :
    readCycleStart (codeWord request option) = some (request, option) := by
  cases request <;> cases option <;> decide

/-- The fields of a tag word read back (R110). -/
theorem readTag_tagWord (r : ReaderNo) (q : Nat) (hq : q < 4) (p x : Fin 64) :
    readTag (tagWord r q p x) = { reader := r, quality := q, pallet := p, complement := x } ∧
      tagSpareZero (tagWord r q p x) = true := by
  have hr := r.isLt; have hp := p.isLt; have hx := x.isLt
  simp only [readTag, tagWord, tagSpareZero, bits, BitVec.toNat_ofNat, TagWord.mk.injEq,
    Fin.ext_iff, Fin.val_ofNat, Bool.and_eq_true, decide_eq_true_eq]
  omega

/-- The fields of a gauge header word read back (R131). -/
theorem readHeader_headerWord (p : PalletNo) (status : Nat) (h : status < 4) :
    readHeader (headerWord p status) = { pallet := p, status := status } ∧
      headerSpareZero (headerWord p status) = true := by
  have hp := p.isLt
  simp only [readHeader, headerWord, headerSpareZero, bits, BitVec.toNat_ofNat,
    GaugeHeader.mk.injEq, Fin.ext_iff, Fin.val_ofNat, Bool.and_eq_true, decide_eq_true_eq]
  omega

/-- A word of the gate control block, at any byte lane, falls in its window (R160). -/
theorem windowOf_lane (w : GateWord) (lane : Fin 4) : windowOf (w.lane lane) = .gate w := by
  cases w with
  | gaugeData axis => cases axis <;> revert lane <;> decide
  | _ => revert lane; decide

theorem windowOf_offset (w : GateWord) : windowOf w.offset = .gate w := by
  cases w with
  | gaugeData axis => cases axis <;> decide
  | _ => decide

theorem GateWord.offset_aligned (w : GateWord) : w.offset.toNat % 4 = 0 := by
  cases w with
  | gaugeData axis => cases axis <;> decide
  | _ => decide

theorem toNat_commandOffset (k : StationNo) (word lane : Nat) (hw : word < 64) (hl : lane < 4) :
    (commandOffset k word lane).toNat = 0x2000 + k.val * 256 + word * 4 + lane := by
  simp only [commandOffset, Config.commandBase, BitVec.toNat_ofNat]
  omega

/-- A word of a station command window falls in it (R158). -/
theorem windowOf_commandOffset (k : StationNo) (word lane : Nat) (hw : word < 64) (hl : lane < 4) :
    windowOf (commandOffset k word lane) = .command k := by
  have h := toNat_commandOffset k word lane hw hl
  have hk := k.isLt
  simp only [windowOf, h]
  repeat rw [if_neg (by omega)]
  rw [if_pos (by omega)]
  congr 1
  apply Fin.ext
  simp only [Fin.val_ofNat]
  omega

theorem toNat_viewOffset (k : StationNo) (o : Fin 256) :
    (viewOffset k o).toNat = 0x4000 + k.val * 256 + o.val := by
  simp only [viewOffset, Config.viewBase, BitVec.toNat_ofNat]
  omega

/-- An offset of a station view falls in it (R158). -/
theorem windowOf_viewOffset (k : StationNo) (o : Fin 256) :
    windowOf (viewOffset k o) = .stationView k := by
  have h := toNat_viewOffset k o
  have hk := k.isLt; have ho := o.isLt
  simp only [windowOf, h]
  repeat rw [if_neg (by omega)]
  rw [if_pos (by omega)]
  congr 1
  apply Fin.ext
  simp only [Fin.val_ofNat]
  omega

theorem toNat_rovingOffset (o : Fin 256) : (rovingOffset o).toNat = 0x5C00 + o.val := by
  simp only [rovingOffset, Config.rovingBase, BitVec.toNat_ofNat]
  omega

/-- An offset of the roving view falls in it (R158). -/
theorem windowOf_rovingOffset (o : Fin 256) : windowOf (rovingOffset o) = .rovingView := by
  have h := toNat_rovingOffset o
  have ho := o.isLt
  simp only [windowOf, h]
  repeat rw [if_neg (by omega)]
  rw [if_pos (by omega)]

/-! ### The gate commands -/

variable (s : State)

/-- What the part decides of a gate command: its owner's checks in order (R173, R174). -/
theorem decide_command (w : Word) (c : GateCommand) (hw : readGateCommand w = .ok c) :
    s.decide ⟨.write, GateWord.gateCommand.offset, .four, w⟩ =
      .after (s.commandChecks c) (fun cause => s.commandPlace c cause)
        (.forward .snoop GateWord.gateCommand.offset w) := by
  simp [State.decide, State.decideWrite, windowOf_offset, GateWord.offset_aligned, Size.bytes,
    State.decideGateWrite, State.decideGate, hw, Request.forwardAs]

/-- The checks of a gate command do not look at the transaction in progress. -/
theorem commandChecks_answered (c : GateCommand) (r : Reply) :
    (s.answered r).commandChecks c = s.commandChecks c := by
  cases c <;> rfl

/-- A gate command whose checks pass takes its effect (R174). -/
theorem completes_command_word (i : Instr) (w : Word) (c : GateCommand) (d : Word)
    (hp : s.presents i = some (s.busWrite GateWord.gateCommand.offset .four w))
    (hw : readGateCommand w = .ok c)
    (hx : exec i s = s.hostWrite GateWord.gateCommand.offset .four w) (hfree : s.portsFree)
    (hc : firstFailure (s.commandChecks c) = none) :
    Completes i d s (State.commandEffect c (s.answered .ok)) := by
  have h := completes_snoop s i ⟨.write, GateWord.gateCommand.offset, .four, w⟩ d
    (by rw [hp, State.busWrite, four_mask]; rfl) (by rw [hx, State.hostWrite, four_mask]) hfree rfl
    (by rw [decide_command s w c hw]; simp [Decision.after, hc])
  simpa [State.snoopAtOk, windowOf_offset, State.gateWordAtOk, State.gateAtOk, hw,
    State.takeOrDrop, commandChecks_answered, hc] using h

/-- A gate command whose checks pass takes its effect (R174). -/
theorem completes_command (i : Instr) (c : GateCommand) (d : Word)
    (hp : s.presents i = some (s.busWrite GateWord.gateCommand.offset .four c.fields.word))
    (hx : exec i s = s.writeCommand c) (hfree : s.portsFree)
    (hc : firstFailure (s.commandChecks c) = none) :
    Completes i d s (State.commandEffect c (s.answered .ok)) :=
  completes_command_word s i _ c d hp (readGateCommand_word c) hx hfree hc

/-- A gate command whose checks fail is refused with the first cause (R174). -/
theorem refuses_command_word (i : Instr) (w : Word) (c : GateCommand) (cause : Cause)
    (hw : readGateCommand w = .ok c)
    (hx : exec i s = s.hostWrite GateWord.gateCommand.offset .four w)
    (hrec : s.classifier.record = none)
    (hc : firstFailure (s.commandChecks c) = some cause) (hp : cause ≠ .patchOverflow) :
    exec i s =
      .next (s.refusedWrite GateWord.gateCommand.offset cause (s.commandPlace c cause)) := by
  rw [hx, State.hostWrite, four_mask,
    arrive_refuse s _ cause (s.commandPlace c cause) hrec
      (by rw [decide_command s w c hw]; simp [Decision.after, hc]), refuseArrival_eq _ _ _ _ _ hp]
  rfl

/-- A gate command whose checks fail is refused with the first cause (R174). -/
theorem refuses_command (i : Instr) (c : GateCommand) (cause : Cause)
    (hx : exec i s = s.writeCommand c) (hrec : s.classifier.record = none)
    (hc : firstFailure (s.commandChecks c) = some cause) (hp : cause ≠ .patchOverflow) :
    exec i s =
      .next (s.refusedWrite GateWord.gateCommand.offset cause (s.commandPlace c cause)) :=
  refuses_command_word s i _ c cause (readGateCommand_word c) hx hrec hc hp

/-- The row of the table that a gate command is. -/
def GateCommand.instr : GateCommand → Instr
  | .openSetup => .openSetup
  | .closeSetup => .closeSetup
  | .beginAlign => .beginAlign
  | .stop => .stop
  | .trip => .trip
  | .insert p v d => .insert p v d
  | .remove p => .remove p
  | .setVariant p v => .setVariant p v
  | .quarantine p => .quarantine p
  | .release p => .release p
  | .rejectBlock p => .rejectBlock p
  | .confirm k => .confirm k
  | .resolveIndex o => .resolveIndex o
  | .hold => .hold
  | .resume => .resume
  | .releaseStation k => .releaseStation k

theorem busCommand_word (code pallet station dest variant outcome : Nat) :
    s.busCommand code pallet station dest variant outcome =
      s.busWrite GateWord.gateCommand.offset .four
        (GateFields.word ⟨code, pallet, station, dest, variant, outcome⟩) := by
  simp only [State.busCommand, GateFields.word, Nat.reducePow]
  congr 1

/-- A gate command presents its word (R173). -/
theorem presents_instr (c : GateCommand) :
    s.presents c.instr = some (s.busWrite GateWord.gateCommand.offset .four c.fields.word) := by
  cases c with
  | insert p v d => cases d <;> exact congrArg some (busCommand_word s _ _ _ _ _ _)
  | _ => exact congrArg some (busCommand_word s _ _ _ _ _ _)

/-- Every gate command is a write of its word. -/
theorem exec_instr (c : GateCommand) : exec c.instr s = s.writeCommand c := by cases c <;> rfl

/-- A gate command whose checks pass completes with its effect (R174). -/
theorem completes_gate (c : GateCommand) (d : Word) (hfree : s.portsFree)
    (hc : firstFailure (s.commandChecks c) = none) :
    Completes c.instr d s (State.commandEffect c (s.answered .ok)) :=
  completes_command s c.instr c d (presents_instr s c) (exec_instr s c) hfree hc

/-- A gate command whose checks fail is refused with the first cause (R174). -/
theorem refuses_gate (c : GateCommand) (cause : Cause) (hrec : s.classifier.record = none)
    (hc : firstFailure (s.commandChecks c) = some cause) (hp : cause ≠ .patchOverflow) :
    exec c.instr s =
      .next (s.refusedWrite GateWord.gateCommand.offset cause (s.commandPlace c cause)) :=
  refuses_command s c.instr c cause (exec_instr s c) hrec hc hp

end Sys2Proof.Machine
end

