-- ==== Sys2Proof/Laws/Commands.lean ====
section
/-! SUPPORT. The arguments of gate commands read against the line, and R14's order for every pallet command at once. -/

namespace Sys2Proof.Machine

variable (s : State)

/-- A station argument below STATION_COUNT names its position. -/
theorem lineStation_eq_some (k : Fin 32) (h : k.val < s.stationCount ∧ k.val < 28) :
    s.lineStation k = some ⟨k.val, h.2⟩ := by
  simp [State.lineStation, positionOf, h.2, Option.filter, State.inLine, h.1]

/-- A station argument not below STATION_COUNT names none. -/
theorem lineStation_eq_none (k : Fin 32) (h : ¬(k.val < s.stationCount ∧ k.val < 28)) :
    s.lineStation k = none := by
  by_cases hk : k.val < 28
  · have : ¬k.val < s.stationCount := fun hs => h ⟨hs, hk⟩
    simp [State.lineStation, positionOf, hk, Option.filter, State.inLine, this]
  · simp [State.lineStation, positionOf, hk]

/-- A variant argument below VARIANT_COUNT names its variant. -/
theorem lineVariant_eq_some (v : Fin 8) (h : v.val < s.config.params.variantCount.val) :
    s.lineVariant v = some ⟨v.val, by omega⟩ := by
  simp [State.lineVariant, h]

theorem lineVariant_eq_none (v : Fin 8) (h : ¬v.val < s.config.params.variantCount.val) :
    s.lineVariant v = none := by
  simp [State.lineVariant, h]

/-- A pallet command meets R14's checks 1 to 3 in order, then its own. -/
theorem palletOrder_of (i : Instr) (c : GateCommand) (hx : exec i s = s.writeCommand c)
    (hrec : s.classifier.record = none) (argumentsTaken : Bool) (own : List (Bool × Cause))
    (hcc : s.commandChecks c = s.palletChecks c argumentsTaken own) (place : Place)
    (hplace : ∀ cause, s.commandPlace c cause = place) (next : Prop)
    (hnext : s.gate.state ≠ .indexing → s.gate.frozen = false → s.line.state ∈ palletStates c →
      next) :
    s.palletOrder i (palletStates c) place next := by
  unfold State.palletOrder
  split
  · rename_i h
    rw [← hplace .indexInFlight]
    exact refuses_command s i c _ hx hrec
      (by simp [hcc, State.palletChecks, firstFailure, State.indexing, h]) (by decide)
  split
  · rename_i h1 h
    rw [← hplace .resolvePending]
    exact refuses_command s i c _ hx hrec
      (by simp [hcc, State.palletChecks, firstFailure, State.indexing, h, h1]) (by decide)
  split
  · rename_i h1 h2 h
    rw [← hplace .notInState]
    exact refuses_command s i c _ hx hrec
      (by simp [hcc, State.palletChecks, firstFailure, State.indexing, h, h1, h2, State.lineIn])
      (by decide)
  · rename_i h1 h2 h
    exact hnext h1 (by simpa using h2) (by simpa using h)

/-- Past R14's checks 1 to 3, the argument check and the own checks decide. -/
theorem palletChecks_passed (c : GateCommand) (argumentsTaken : Bool) (own : List (Bool × Cause))
    (h1 : s.gate.state ≠ .indexing) (h2 : s.gate.frozen = false)
    (h3 : s.line.state ∈ palletStates c) :
    firstFailure (s.palletChecks c argumentsTaken own) =
      firstFailure ((argumentsTaken, .badArgument) :: own) := by
  simp [State.palletChecks, firstFailure, State.indexing, h1, h2, State.lineIn, h3]

end Sys2Proof.Machine
end

