-- ==== Sys2Proof/Laws/Ticks.lean ====
section
/-! SUPPORT. What a tick takes first: the steps of what is still due, run one after the other (log 3). -/

namespace Sys2Proof.Machine

/-- Runs of two lists of commands, one after the other. -/
theorem Runs.append {l m : List Instr} {s t u : State} (h : Runs l s t) (h' : Runs m t u) :
    Runs (l ++ m) s u := by
  induction l generalizing s with
  | nil => exact h ▸ h'
  | cons i l ih => exact ⟨h.choose, h.choose_spec.1, ih h.choose_spec.2⟩

/-- One command that answers a next state. -/
theorem Runs.one {i : Instr} {s t : State} (h : exec i s = .next t) : Runs [i] s t := ⟨t, h, rfl⟩

/-- The same commands for every station in turn. -/
theorem Runs.flatMap (l : List StationNo) (f : StationNo → List Instr)
    (g : State → StationNo → State) (h : ∀ k s, Runs (f k) s (g s k)) (s : State) :
    Runs (l.flatMap f) s (l.foldl g s) := by
  induction l generalizing s with
  | nil => rfl
  | cons k l ih => exact (h k s).append (ih (g s k))

variable (s : State)

/-! ### A boundary taken is no longer due -/

theorem State.gate_endAlignmentIf (c : Prop) [Decidable c] :
    (if c then s.endAlignment else s).gate = s.gate := by split <;> rfl

theorem State.gate_abandonIf :
    (if s.indexing then s.abandonIndex else s).stopUnits.gate = s.gate ∨
      (if s.indexing then s.abandonIndex else s).stopUnits.gate.timer = s.gate.timer.stop := by
  simp only [State.stopUnits_gate]
  cases s.indexing
  · exact .inl rfl
  · exact .inr rfl

/-- A trip leaves the index timer, or stops it (R50). -/
theorem State.timer_trip (c : TripCause) :
    (s.trip c).gate.timer = s.gate.timer ∨ (s.trip c).gate.timer = s.gate.timer.stop := by
  unfold State.trip
  split
  · exact .inl rfl
  · dsimp only
    rw [State.enterLine_gate]
    have hu := State.gate_endAlignmentIf { s with line := { s.line with tripCause := c } }
      (s.line.state = .aligning)
    revert hu
    generalize (if s.line.state = .aligning then
      State.endAlignment { s with line := { s.line with tripCause := c } }
      else { s with line := { s.line with tripCause := c } }) = u
    intro hu
    rcases State.gate_abandonIf u with h | h
    · exact .inl (congrArg IndexGate.timer (h.trans hu))
    · exact .inr (h.trans (congrArg (fun g => MarkTimer.stop (IndexGate.timer g)) hu))

theorem takeIndexBoundary_due
    (h : (s.gate.timer.running && s.gate.timer.due && s.indexMarked) = true) :
    s.takeIndexBoundary.gate.timer.due = false := by
  simp only [State.takeIndexBoundary, h, if_true]
  split
  · rcases State.timer_trip _ TripCause.indexTimeout with hg | hg
    · exact congrArg MarkTimer.due (hg.trans (congrArg IndexGate.timer (State.raiseIf_gate _ _ _)))
    · exact congrArg MarkTimer.due hg
  · simp

theorem takeIndexBoundary_of_not
    (h : (s.gate.timer.running && s.gate.timer.due && s.indexMarked) = false) :
    s.takeIndexBoundary = s := by
  simp [State.takeIndexBoundary, h]

theorem takeIndexBoundary_again : s.takeIndexBoundary.takeIndexBoundary = s.takeIndexBoundary := by
  cases h : s.gate.timer.running && s.gate.timer.due && s.indexMarked
  · simp only [takeIndexBoundary_of_not s h]
  · exact takeIndexBoundary_of_not _ (by rw [takeIndexBoundary_due s h]; simp)

/-- The two marks of the index timer, one after the other, take its boundary. -/
theorem runs_indexMarks : Runs [.indexSlowMark, .indexLimitMark] s s.takeIndexBoundary := by
  refine ⟨_, rfl, _, rfl, ?_⟩
  by_cases hs : s.gate.timer.count + 1 = s.config.params.indexSlow
  · rw [if_pos hs]
    split
    · exact (takeIndexBoundary_again s).symm
    · rfl
  · rw [if_neg hs]
    split
    · rfl
    · rename_i hl
      exact takeIndexBoundary_of_not s (by simp [State.indexMarked, hs, hl])

variable (k : StationNo)

theorem takeUnitBoundary_of_not
    (h : ((s.station k).budgetDue && s.unitRuns k && s.unitMarked k) = false) :
    s.takeUnitBoundary k = s := by
  simp [State.takeUnitBoundary, h]

theorem takeUnitBoundary_due
    (h : ((s.station k).budgetDue && s.unitRuns k && s.unitMarked k) = true) :
    ((s.takeUnitBoundary k).station k).budgetDue = false := by
  have step (f : State → State) (hf : ∀ u : State, (u.station k).budgetDue = false →
      ((f u).station k).budgetDue = false) (c : Prop) [Decidable c] (u : State)
      (hu : (u.station k).budgetDue = false) :
      ((if c then f u else u).station k).budgetDue = false := by
    split
    · exact hf u hu
    · exact hu
  simp only [State.takeUnitBoundary, h, if_true]
  refine step (State.reachAck k) (fun u hu => ?_) _ _
    (step (State.reachLimit k) (fun u hu => ?_) _ _
      (step (State.reachWarn k) (fun u hu => ?_) _ _ ?_))
  · unfold State.reachAck
    split
    · split
      · exact hu
      · show ((State.setStation _ _ _).station k).budgetDue = false
        simp [Station.endEngagement]
    · exact hu
  · show ((State.setStation _ _ _).station k).budgetDue = false
    simpa using hu
  · show ((State.setStation _ _ _).station k).budgetDue = false
    simpa using hu
  · simp

theorem takeUnitBoundary_again :
    (s.takeUnitBoundary k).takeUnitBoundary k = s.takeUnitBoundary k := by
  cases h : (s.station k).budgetDue && s.unitRuns k && s.unitMarked k
  · simp only [takeUnitBoundary_of_not s k h]
  · exact takeUnitBoundary_of_not _ k (by rw [takeUnitBoundary_due s k h]; simp)

/-- The three marks of a budget unit, one after the other, take its boundary. -/
theorem runs_unitMarks : Runs [.ackMark k, .warnMark k, .limitMark k] s (s.takeUnitBoundary k) := by
  have h2 (c : Prop) [Decidable c] : (if c then (s.takeUnitBoundary k).takeUnitBoundary k
      else s.takeUnitBoundary k) = s.takeUnitBoundary k := by
    split
    · exact takeUnitBoundary_again s k
    · rfl
  refine ⟨_, rfl, _, rfl, _, rfl, ?_⟩
  by_cases ha : s.unitNext k = (s.descriptor k).ack
  · rw [if_pos ha, h2, h2]
    rfl
  · rw [if_neg ha]
    by_cases hw : s.unitNext k = (s.descriptor k).warn
    · rw [if_pos hw, h2]
      rfl
    · rw [if_neg hw]
      split
      · rfl
      · rename_i hl
        exact takeUnitBoundary_of_not s k (by simp [State.unitMarked, ha, hw, hl])

/-- What a tick takes first is what the due steps leave, run in their order (log 3). -/
theorem runs_dueSteps : Runs dueSteps s s.takeDue := by
  unfold dueSteps State.takeDue
  exact ((((Runs.one rfl).append
    (Runs.flatMap allStations (fun k => [.filterSettle k .clear, .filterSettle k .presence])
      (fun s k => (s.settleInput k .clear).settleInput k .presence)
      (fun _ _ => ⟨_, rfl, _, rfl, rfl⟩) _)).append (runs_indexMarks _)).append
    (Runs.flatMap allStations (fun k => [.ackMark k, .warnMark k, .limitMark k])
      (fun s k => s.takeUnitBoundary k)
      (fun k s => runs_unitMarks s k) _)).append (Runs.one rfl)

end Sys2Proof.Machine
end

