-- ==== Sys2Proof/Laws/Timer.lean ====
section
/-! SUPPORT. What the memory's OK does never looks at the count of the response timer, and leaves it: one lemma per operation. -/

namespace Sys2Proof.Machine

/-- The state with another response timer. -/
def State.withTimer (τ : ResponseTimer) (s : State) : State :=
  { s with classifier := { s.classifier with timer := τ } }

/-- The operation neither reads nor writes the response timer. -/
def TimerFree (f : State → State) : Prop := ∀ τ s, f (s.withTimer τ) = (f s).withTimer τ

/-- Of two operations one after the other. -/
theorem TimerFree.comp {f g : State → State} (hf : TimerFree f) (hg : TimerFree g) :
    TimerFree fun s => f (g s) := fun τ s => (congrArg f (hg τ s)).trans (hf τ _)

/-- Of a choice that does not look at the timer. -/
theorem TimerFree.ite {f g : State → State} {c : State → Prop} [∀ s, Decidable (c s)]
    (hf : TimerFree f) (hg : TimerFree g) (hc : ∀ τ s, c (s.withTimer τ) ↔ c s) :
    TimerFree fun s => if c s then f s else g s := fun τ s => by
  by_cases h : c s
  · simp only [h, if_true, (hc τ s).mpr h]; exact hf τ s
  · have h' : ¬c (s.withTimer τ) := fun h' => h ((hc τ s).mp h')
    simp only [h, h', if_false]; exact hg τ s

theorem timerFree_id : TimerFree fun s => s := fun _ _ => rfl

/-- Of an operation chosen by an optional value of the state. -/
theorem TimerFree.option {α : Type} {v : State → Option α} {f : α → State → State}
    {g : State → State} (hv : ∀ τ s, v (s.withTimer τ) = v s) (hf : ∀ a, TimerFree (f a))
    (hg : TimerFree g) :
    TimerFree fun s => match v s with | some a => f a s | none => g s := fun τ s => by
  show (match v (s.withTimer τ) with | some a => f a _ | none => g _) =
    State.withTimer τ (match v s with | some a => f a s | none => g s)
  rw [hv]
  cases v s
  · exact hg τ s
  · exact hf _ τ s

theorem timerFree_raise (f : Flag) : TimerFree (State.raise f) := fun _ _ => rfl
theorem timerFree_addFault (f : CycleFault) : TimerFree (State.addFault f) := fun _ _ => rfl
theorem timerFree_setEntry (k : StationNo) (e : MapEntry) : TimerFree (State.setEntry k e) :=
  fun _ _ => rfl
theorem timerFree_setStatus (k : StationNo) (st : Status) : TimerFree (State.setStatus k st) :=
  fun _ _ => rfl
theorem timerFree_setPallet (p : PalletNo) (r : Pallet) : TimerFree (State.setPallet p r) :=
  fun _ _ => rfl
theorem timerFree_setService (p : PalletNo) (v : Service) : TimerFree (State.setService p v) :=
  fun _ _ => rfl
theorem timerFree_setBlock (p : PalletNo) (b : Block) : TimerFree (State.setBlock p b) :=
  fun _ _ => rfl
theorem timerFree_unqueue (p : PalletNo) : TimerFree (State.unqueue p) := fun _ _ => rfl
theorem timerFree_refreshEnables : TimerFree State.refreshEnables := fun _ _ => rfl
theorem timerFree_stopUnits : TimerFree State.stopUnits := fun _ _ => rfl
theorem timerFree_abandonIndex : TimerFree State.abandonIndex := fun _ _ => rfl
theorem timerFree_endAlignment : TimerFree State.endAlignment := fun _ _ => rfl

theorem TimerFree.raiseIf {c : State → Bool} (f : Flag) {g : State → State} (hg : TimerFree g)
    (hc : ∀ τ s, c (s.withTimer τ) = c s) : TimerFree fun s => (g s).raiseIf (c s) f :=
  fun τ s => by
    simp only [hc, hg τ s]
    cases c s <;> rfl

theorem TimerFree.addFaultIf {c : State → Bool} (f : CycleFault) {g : State → State}
    (hg : TimerFree g) (hc : ∀ τ s, c (s.withTimer τ) = c s) :
    TimerFree fun s => (g s).addFaultIf (c s) f :=
  fun τ s => by
    simp only [hc, hg τ s]
    cases c s <;> rfl

theorem timerFree_enterLine (l : LineState) : TimerFree (State.enterLine l) := fun τ s => by
  cases h : (s.line.state != l) <;>
    (have h' : ((s.withTimer τ).line.state != l) = _ := h
     simp only [State.enterLine, h, h', State.raiseIf]; rfl)

theorem timerFree_trip (c : TripCause) : TimerFree (State.trip c) := fun τ s => by
  unfold State.trip
  by_cases h : s.lineIn [.setup, .tripped] = true
  · rw [if_pos h, if_pos (show (s.withTimer τ).lineIn [.setup, .tripped] = true from h)]
  · rw [if_neg h, if_neg (show ¬(s.withTimer τ).lineIn [.setup, .tripped] = true from h)]
    exact ((timerFree_enterLine .tripped).comp (timerFree_stopUnits.comp
      (TimerFree.ite (c := fun s => s.indexing = true) timerFree_abandonIndex timerFree_id
        fun _ _ => Iff.rfl))).comp
      (TimerFree.ite (c := fun s => s.line.state = .aligning) timerFree_endAlignment timerFree_id
        fun _ _ => Iff.rfl) τ { s with line := { s.line with tripCause := c } }

/-! ### The tracking unit and the compensation unit -/

theorem timerFree_quarantinePallet (p : PalletNo) : TimerFree (State.quarantinePallet p) :=
  TimerFree.ite (c := fun s => s.queued p = true)
    ((timerFree_setService p .out).comp (timerFree_unqueue p)) (timerFree_setService p .quarantine)
    fun _ _ => Iff.rfl

theorem timerFree_quarantineClaim (p : PalletNo) : TimerFree (State.quarantineClaim p) :=
  TimerFree.ite (c := fun s => (s.pallet p).service = .inService)
    ((timerFree_quarantinePallet p).comp (timerFree_raise .quarantined))
    (timerFree_raise .quarantined) fun _ _ => Iff.rfl

theorem timerFree_correctEntry (k : StationNo) (p : PalletNo) (arrives : Bool) :
    TimerFree (State.correctEntry k p arrives) := fun τ s => by
  cases h : (s.entry k).pallet <;>
    (have h' : ((s.withTimer τ).entry k).pallet = _ := h
     simp only [State.correctEntry, h, h']; rfl)

theorem timerFree_unloadExit : TimerFree State.unloadExit := fun τ s => by
  cases h : (s.entry s.unloadStation).pallet with
  | none =>
    have h' : ((s.withTimer τ).entry (s.withTimer τ).unloadStation).pallet = none := h
    simp only [State.unloadExit, h, h']
  | some u =>
    have h' : ((s.withTimer τ).entry (s.withTimer τ).unloadStation).pallet = some u := h
    have hp : (s.withTimer τ).pallet u = s.pallet u := rfl
    simp only [State.unloadExit, h, h', hp]
    by_cases hs : (s.pallet u).service = .inService <;>
      cases hb : ((s.pallet u).block != .empty) <;>
      simp only [hs, if_true, if_false] <;> rfl

theorem timerFree_mapShift : TimerFree State.mapShift :=
  TimerFree.comp (f := State.moveEntries) (fun _ _ => rfl) timerFree_unloadExit

theorem timerFree_countUngauged (p : PalletNo) : TimerFree (State.countUngauged p) :=
  TimerFree.ite (c := fun s => (s.pallet p).gauged = true) timerFree_id
    (TimerFree.ite
      (c := fun s => s.config.params.ungaugedLimit ≤
        saturate Config.ungaugedMax (s.pallet p).ungauged)
      ((timerFree_quarantineClaim p).comp
        (g := fun s => s.setPallet p
          { s.pallet p with ungauged := saturate Config.ungaugedMax (s.pallet p).ungauged })
        fun _ _ => rfl)
      (fun _ _ => rfl) fun _ _ => Iff.rfl)
    fun _ _ => Iff.rfl

theorem timerFree_ungaugedAccounting (leaving : Option PalletNo) :
    TimerFree (State.ungaugedAccounting leaving) := fun τ s => by
  have counted : State.forPallet leaving State.countUngauged (s.withTimer τ) =
      (State.forPallet leaving State.countUngauged s).withTimer τ := by
    cases leaving
    · rfl
    · exact timerFree_countUngauged _ τ s
  show State.forPallet s.gaugedPallet State.clearGauged
      (State.forPallet leaving State.countUngauged (s.withTimer τ)) = _
  rw [counted, State.ungaugedAccounting]
  cases s.gaugedPallet <;> rfl

theorem timerFree_applyGaugeResult (p : PalletNo) : TimerFree (State.applyGaugeResult p) :=
  TimerFree.ite
    (c := fun s => (s.steppedOffset p).any (offsetClamped s.config.params.offsetLimit) = true)
    ((timerFree_quarantineClaim p).comp
      (TimerFree.raiseIf (c := fun s => s.compensation.any (stepLimited s.config.params.maxStep))
        .stepLimited (fun _ _ => rfl) fun _ _ => rfl))
    (TimerFree.raiseIf (c := fun s => s.compensation.any (stepLimited s.config.params.maxStep))
      .stepLimited (fun _ _ => rfl) fun _ _ => rfl)
    fun _ _ => Iff.rfl

/-! ### The identity checker -/

theorem timerFree_enterProduction : TimerFree State.enterProduction :=
  (timerFree_enterLine .producing).comp
    (g := fun s => { s with line := { s.line with failed := 0, clean := 0 } }) fun _ _ => rfl

theorem timerFree_checkAligned : TimerFree State.checkAligned :=
  TimerFree.ite (c := fun s => s.line.state = .aligning ∧ s.aligned = true)
    (TimerFree.raiseIf (c := fun s => s.identity.corrected) .alignCorrected
      (timerFree_enterProduction.comp timerFree_endAlignment) fun _ _ => rfl)
    timerFree_id fun _ _ => Iff.rfl

theorem timerFree_startAttempt : TimerFree State.startAttempt :=
  timerFree_checkAligned.comp
    (g := fun s => { s with identity := { s.identity with timer := .restart } }) fun _ _ => rfl

theorem timerFree_exhaustAlignment : TimerFree State.exhaustAlignment :=
  (timerFree_enterLine .stopped).comp ((timerFree_raise .alignAborted).comp
    (g := fun s => { s with identity := { s.identity with aborted := true } }) fun _ _ => rfl)

theorem timerFree_failAttempt : TimerFree State.failAttempt := by
  have ended : TimerFree fun s => { s with identity :=
      { s.identity with
        timer := s.identity.timer.stop, remaining := s.identity.remaining - 1 } } :=
    fun _ _ => rfl
  exact TimerFree.ite (c := fun s => s.identity.remaining - 1 = 0)
    (timerFree_exhaustAlignment.comp ended)
    (timerFree_startAttempt.comp
      (TimerFree.comp (f := State.resetUncertain) (fun _ _ => rfl) ended))
    fun _ _ => Iff.rfl

theorem timerFree_beginAlignment : TimerFree State.beginAlignment := by
  have fresh : TimerFree fun s => { s with identity :=
      { s.identity with
        remaining := s.config.params.alignAttempts, corrected := false, aborted := false } } :=
    fun _ _ => rfl
  exact TimerFree.ite (c := fun s => s.needsAlignment = true)
    (timerFree_startAttempt.comp ((timerFree_enterLine .aligning).comp fresh))
    (timerFree_enterProduction.comp fresh) fun _ _ => Iff.rfl

theorem timerFree_recordTag (r : ReaderNo) (k : StationNo) (q : Quality) (p : Option PalletNo)
    (o : TagOutcome) : TimerFree (State.recordTag r k q p o) := fun _ _ => rfl

theorem timerFree_takeMatch (r : ReaderNo) (k : StationNo) (p : PalletNo) :
    TimerFree (State.takeMatch r k p) :=
  timerFree_checkAligned.comp
    ((timerFree_setStatus k .confirmed).comp (timerFree_recordTag r k .good (some p) .matched))

theorem timerFree_takeUncertain (r : ReaderNo) (k : StationNo) (p : PalletNo) :
    TimerFree (State.takeUncertain r k p) := by
  have marked := (timerFree_setStatus k .uncertain).comp
    (timerFree_recordTag r k .good (some p) .uncertain)
  exact TimerFree.ite (c := fun s => s.line.state = .aligning) (timerFree_failAttempt.comp marked)
    marked fun _ _ => Iff.rfl

theorem timerFree_takeCorrection (r : ReaderNo) (k : StationNo) (p : PalletNo) :
    TimerFree (State.takeCorrection r k p) := fun τ s => by
  have h : State.correctEntry k p ((s.withTimer τ).gaugeStation == some k)
      ((s.withTimer τ).recordTag r k .good (some p) .corrected) = _ :=
    timerFree_correctEntry k p (s.gaugeStation == some k) τ
      (s.recordTag r k .good (some p) .corrected)
  unfold State.takeCorrection
  simp only [h]
  exact TimerFree.ite (c := fun u => u.line.state = .aligning)
    (timerFree_checkAligned.comp
      (g := fun u => { u with identity := { u.identity with corrected := true } }) fun _ _ => rfl)
    timerFree_id (fun _ _ => Iff.rfl) τ
    (State.correctEntry k p (s.gaugeStation == some k)
      (s.recordTag r k .good (some p) .corrected))

theorem timerFree_takeGood (r : ReaderNo) (k : StationNo) (p : PalletNo) :
    TimerFree (State.takeGood r k p) := by
  have noted := (timerFree_raise .tagMismatch).comp (timerFree_addFault .tagMismatch)
  exact TimerFree.ite (c := fun s => (s.entry k).pallet = some p) (timerFree_takeMatch r k p)
    (TimerFree.ite (c := fun s => (!(s.descriptor k).authority) = true)
      ((timerFree_takeUncertain r k p).comp noted)
      (TimerFree.ite (c := fun s => (s.pallet p).service = .out)
        ((timerFree_takeCorrection r k p).comp noted)
        (((timerFree_trip .mapConflict).comp
          (timerFree_recordTag r k .good (some p) .conflict)).comp noted)
        fun _ _ => Iff.rfl) fun _ _ => Iff.rfl) fun _ _ => Iff.rfl

/-! ### The commands and the snooped words -/

theorem timerFree_acceptIndex : TimerFree State.acceptIndex := by
  have faulted := TimerFree.addFaultIf (c := fun s => allStations.any s.uncertainAt)
    .uncertainMoved
    (TimerFree.addFaultIf (c := fun s => allStations.any s.tagPendingAt) .tagMissing timerFree_id
      fun _ _ => rfl) fun _ _ => rfl
  exact timerFree_refreshEnables.comp (TimerFree.comp
    (f := fun s => { s with gate :=
      { s.gate with
        state := .indexing, motionSeen := false, timer := .restart, permit := true } })
    (fun _ _ => rfl) faulted)

theorem timerFree_resolveComplete : TimerFree State.resolveComplete := fun τ s => by
  have h : State.ungaugedAccounting s.gaugedPallet (s.withTimer τ).mapShift = _ :=
    (timerFree_ungaugedAccounting s.gaugedPallet).comp timerFree_mapShift τ s
  show (let shifted := State.ungaugedAccounting s.gaugedPallet (s.withTimer τ).mapShift
    { shifted with
      line := { shifted.line with cycle := shifted.line.cycle + 1 }
      gate := { shifted.gate with frozen := false } }) = _
  rw [h]
  rfl

theorem timerFree_insertPallet (p : PalletNo) (v : Fin 6) (d : Destination) :
    TimerFree (State.insertPallet p v d) := fun τ s => by
  cases d with
  | queue => rfl
  | station k =>
    cases h : s.lineStation k <;>
      (have h' : (s.withTimer τ).lineStation k = _ := h
       simp only [State.insertPallet, h, h']; rfl)

theorem timerFree_removePallet (p : PalletNo) : TimerFree (State.removePallet p) := fun τ s => by
  cases h : s.location p <;>
    (have h' : (s.withTimer τ).location p = _ := h
     simp only [State.removePallet, h, h']; rfl)

theorem timerFree_stopLine : TimerFree State.stopLine := fun τ s => by
  have moving := TimerFree.ite (c := fun s => s.indexing = true)
    (f := fun s => { s with line := { s.line with stopPending := true } }) (fun _ _ => rfl)
    (timerFree_enterLine .stopped) (fun _ _ => Iff.rfl) τ s
  cases h : s.line.state <;>
    (have h' : (s.withTimer τ).line.state = _ := h
     simp only [State.stopLine, h, h'])
  · exact (timerFree_enterLine .stopped).comp timerFree_endAlignment τ s
  · simpa only [h, h'] using moving
  · simpa only [h, h'] using moving

theorem timerFree_enterSetup : TimerFree State.enterSetup :=
  (timerFree_enterLine .setup).comp fun _ _ => rfl

theorem timerFree_withSome {α : Type} {v : State → Option α} {f : α → State → State}
    (hv : ∀ τ s, v (s.withTimer τ) = v s) (hf : ∀ a, TimerFree (f a)) :
    TimerFree fun s => s.withSome (v s) f :=
  TimerFree.option hv hf timerFree_id

/-- The effect of a gate command (R174). -/
theorem timerFree_commandEffect (c : GateCommand) : TimerFree (State.commandEffect c) := by
  cases c with
  | openSetup => exact timerFree_enterSetup
  | closeSetup => exact timerFree_enterLine .prepared
  | beginAlign => exact timerFree_beginAlignment
  | stop => exact timerFree_stopLine
  | trip => exact timerFree_trip .tripCommand
  | insert p v d =>
    exact timerFree_withSome (v := fun s => s.lineVariant v) (fun _ _ => rfl)
      fun w => timerFree_insertPallet p w d
  | remove p => exact timerFree_removePallet p
  | setVariant p v =>
    exact timerFree_withSome (v := fun s => s.lineVariant v) (f := State.changeVariant p)
      (fun _ _ => rfl) fun _ _ _ => rfl
  | quarantine p => exact timerFree_quarantinePallet p
  | release p => exact timerFree_setService p .inService
  | rejectBlock p => exact timerFree_setBlock p .reject
  | confirm k =>
    exact timerFree_withSome (v := fun s => s.lineStation k) (f := fun j s => s.setStatus j .confirmed)
      (fun _ _ => rfl) fun _ _ _ => rfl
  | resolveIndex o =>
    exact TimerFree.ite (c := fun _ => o = 1) timerFree_resolveComplete (fun _ _ => rfl)
      fun _ _ => Iff.rfl
  | hold => exact fun _ _ => rfl
  | resume => exact fun _ _ => rfl
  | releaseStation k =>
    exact timerFree_withSome (v := fun s => s.lineStation k)
      (f := fun j s => s.releaseEngagement j) (fun _ _ => rfl) fun _ _ _ => rfl

/-- An effect under checks that do not look at the timer, and the drop that stands for it (R168). -/
theorem timerFree_takeOrDrop (o : Offset) {checks : State → List (Bool × Cause)}
    {effect : State → State → State} (hc : ∀ τ s, checks (s.withTimer τ) = checks s)
    (he : TimerFree fun s => effect s s) :
    TimerFree fun s => s.takeOrDrop o (checks s) (effect s) := fun τ s => by
  show State.takeOrDrop o (checks (s.withTimer τ)) _ _ = _
  rw [hc]
  cases h : firstFailure (checks s) <;> simp only [State.takeOrDrop, h]
  · exact he τ s
  · rfl

theorem commandChecks_withTimer (c : GateCommand) (τ : ResponseTimer) (s : State) :
    (s.withTimer τ).commandChecks c = s.commandChecks c := by
  cases c <;> rfl

theorem timerFree_clearCaptures (w : Word) : TimerFree (State.clearCaptures w) :=
  TimerFree.ite (c := fun _ => w.getLsbD 31 = true) (fun _ _ => rfl) (fun _ _ => rfl)
    fun _ _ => Iff.rfl

theorem timerFree_clearDrop (w : Word) : TimerFree (State.clearDrop w) :=
  TimerFree.ite (c := fun _ => w.getLsbD 0 = true) (fun _ _ => rfl) timerFree_id
    fun _ _ => Iff.rfl

theorem timerFree_takeTag (t : TagWord) : TimerFree (State.takeTag t) := fun τ s => by
  cases h : s.readerStation t.reader with
  | none =>
    have h' : (s.withTimer τ).readerStation t.reader = none := h
    simp only [State.takeTag, h, h']
  | some k =>
    have h' : (s.withTimer τ).readerStation t.reader = some k := h
    simp only [State.takeTag, h, h']
    by_cases hq : t.quality = 0
    · simp only [hq, if_true]; exact timerFree_takeGood t.reader k t.pallet τ s
    · simp only [hq, if_false]; rfl

theorem timerFree_takeHeader (h : GaugeHeader) : TimerFree (State.takeHeader h) :=
  TimerFree.ite (c := fun _ => h.status = 0) (timerFree_applyGaugeResult h.pallet) timerFree_id
    fun _ _ => Iff.rfl

/-- The effect of a snooped word of the gate control block (R160). -/
theorem timerFree_gateWordAtOk (o : Offset) (z : Size) (w : Word) (g : GateWord) :
    TimerFree fun s => s.gateWordAtOk o z w g := by
  cases g with
  | gateCommand =>
    show TimerFree fun s => match readGateCommand w with
      | .ok c => s.takeOrDrop o (s.commandChecks c) (State.commandEffect c) | .error _ => s
    cases readGateCommand w with
    | error _ => exact timerFree_id
    | ok c =>
      exact timerFree_takeOrDrop o (effect := fun _ => State.commandEffect c)
        (commandChecks_withTimer c) (timerFree_commandEffect c)
  | transfer =>
    show TimerFree (State.transferAtOk o w)
    cases h : readTransfer w with
    | none => exact fun τ s => by simp only [State.transferAtOk, h]
    | some x =>
      obtain ⟨request, override⟩ := x
      cases request
      · exact fun τ s => by simp only [State.transferAtOk, h]
      · intro τ s
        have hc : (s.withTimer τ).indexChecks override = s.indexChecks override := rfl
        cases hf : firstFailure (s.indexChecks override) <;>
          simp only [State.transferAtOk, h, hc, hf]
        · exact timerFree_acceptIndex τ s
        · rfl
  | tag =>
    exact timerFree_takeOrDrop o (effect := fun _ => State.takeTag (readTag w)) (fun _ _ => rfl)
      (timerFree_takeTag _)
  | gaugeHeader =>
    exact timerFree_takeOrDrop o (effect := fun _ => State.takeHeader (readHeader w))
      (fun _ _ => rfl) (timerFree_takeHeader _)
  | gaugeData axis => cases axis <;> exact fun _ _ => rfl
  | captureClear => exact timerFree_clearCaptures _
  | dropRecord => exact timerFree_clearDrop _
  | _ => exact fun _ _ => rfl

/-- The effect of a snooped write at its OK response (R167). -/
theorem timerFree_snoopAtOk (o : Offset) (z : Size) (w : Word) :
    TimerFree (State.snoopAtOk o z w) := by
  unfold State.snoopAtOk
  dsimp only
  split
  · exact timerFree_gateWordAtOk o z w _
  · exact timerFree_takeOrDrop o (fun _ _ => rfl) fun _ _ => rfl
  · exact timerFree_takeOrDrop o (fun _ _ => rfl) fun _ _ => rfl
  · exact timerFree_takeOrDrop o (fun _ _ => rfl) fun _ _ => rfl
  · exact timerFree_takeOrDrop o (fun _ _ => rfl) fun _ _ => rfl
  all_goals exact timerFree_id

theorem overlay_withTimer (τ : ResponseTimer) (s : State) (o : Offset) (z : Size) :
    (s.withTimer τ).overlay o z = s.overlay o z := by
  unfold State.overlay State.overlayWord
  split <;> rfl

/-- The memory's OK stops the response timer where it stands and looks at it no further (R163). -/
theorem respondOk_withTimer (t : Transaction) (d : Word) (τ : ResponseTimer) (s : State) :
    State.respondOk t d (s.withTimer τ) =
      (State.respondOk t d s).withTimer { τ with running := false } := by
  have h : State.snoopAtOk t.offset t.size t.data (State.answer .ok (s.withTimer τ)) = _ :=
    timerFree_snoopAtOk t.offset t.size t.data { τ with running := false } (s.answer .ok)
  unfold State.respondOk
  split
  · exact h
  · rfl
  · rw [overlay_withTimer]; rfl
  · rfl

end Sys2Proof.Machine
end

