-- ==== Sys2Proof/Laws/Views.lean ====
section
/-! SUPPORT. The overlaid windows: where each lies, and the words that are packed from fields. -/

namespace Sys2Proof.Machine

/-! ### Packed words -/

/-- A field below the fields of the rest is added to them. -/
theorem pack_cons (lo width value n : Nat) (rest : List (Nat × Nat × Nat))
    (h : pack rest = BitVec.ofNat 32 (n * 2 ^ (lo + width))) :
    pack ((lo, width, value) :: rest) =
      BitVec.ofNat 32 (value % 2 ^ width * 2 ^ lo + n * 2 ^ (lo + width)) := by
  have hlt : value % 2 ^ width * 2 ^ lo < 2 ^ (lo + width) := by
    rw [Nat.pow_add, Nat.mul_comm (2 ^ lo)]
    exact Nat.mul_lt_mul_of_pos_right (Nat.mod_lt _ (Nat.two_pow_pos _)) (Nat.two_pow_pos _)
  have hor : value % 2 ^ width * 2 ^ lo ||| n * 2 ^ (lo + width) =
      value % 2 ^ width * 2 ^ lo + n * 2 ^ (lo + width) := by
    rw [Nat.or_comm, Nat.mul_comm n, ← Nat.two_pow_add_eq_or_of_lt hlt, Nat.add_comm]
  rw [pack, h, ← hor]
  apply BitVec.eq_of_toNat_eq
  simp only [BitVec.toNat_or, BitVec.toNat_ofNat]
  exact Nat.or_mod_two_pow.symm

/-- A word of four bytes, as a number. -/
theorem wordOfBytes_eq (b : Nat → Nat) (first : Nat) :
    wordOfBytes b first =
      BitVec.ofNat 32
        (b first + b (first + 1) * 0x100 + b (first + 2) * 0x10000 + b (first + 3) * 0x1000000) := by
  have h : leRead b first 4 = b first + b (first + 1) * 0x100 + b (first + 2) * 0x10000 +
      b (first + 3) * 0x1000000 := by
    simp [leRead]
  rw [wordOfBytes, h]

/-! ### The windows -/

variable (o : Nat)

theorem windowOf_params (h : 0x100 ≤ o) (h' : o < 0x200) :
    windowOf (BitVec.ofNat 16 o) = .params := by
  have ho : (BitVec.ofNat 16 o).toNat = o := by simp only [BitVec.toNat_ofNat]; omega
  simp only [windowOf, ho]
  repeat rw [if_neg (by omega)]
  rw [if_pos (by omega)]

theorem windowOf_descriptor (k : StationNo) (h : 0x200 + k.val * 32 ≤ o)
    (h' : o < 0x200 + k.val * 32 + 32) : windowOf (BitVec.ofNat 16 o) = .descriptor k := by
  have hk := k.isLt
  have ho : (BitVec.ofNat 16 o).toNat = o := by simp only [BitVec.toNat_ofNat]; omega
  simp only [windowOf, ho]
  repeat rw [if_neg (by omega)]
  rw [if_pos (by omega)]
  exact congrArg Window.descriptor (Fin.ext (by simp only [Fin.val_ofNat]; omega))

theorem windowOf_variant (v : Fin 6) (h : 0x600 + v.val * 16 ≤ o)
    (h' : o < 0x600 + v.val * 16 + 16) : windowOf (BitVec.ofNat 16 o) = .variant v := by
  have hv := v.isLt
  have ho : (BitVec.ofNat 16 o).toNat = o := by simp only [BitVec.toNat_ofNat]; omega
  simp only [windowOf, ho]
  repeat rw [if_neg (by omega)]
  rw [if_pos (by omega)]
  exact congrArg Window.variant (Fin.ext (by simp only [Fin.val_ofNat]; omega))

theorem windowOf_rule (r : Fin 24) (h : 0x700 + r.val * 8 ≤ o) (h' : o < 0x700 + r.val * 8 + 8) :
    windowOf (BitVec.ofNat 16 o) = .rule r := by
  have hr := r.isLt
  have ho : (BitVec.ofNat 16 o).toNat = o := by simp only [BitVec.toNat_ofNat]; omega
  simp only [windowOf, ho]
  repeat rw [if_neg (by omega)]
  rw [if_pos (by omega)]
  exact congrArg Window.rule (Fin.ext (by simp only [Fin.val_ofNat]; omega))

theorem windowOf_palletView (h : 0x800 ≤ o) (h' : o < 0x1000) :
    windowOf (BitVec.ofNat 16 o) = .palletView := by
  have ho : (BitVec.ofNat 16 o).toNat = o := by simp only [BitVec.toNat_ofNat]; omega
  simp only [windowOf, ho]
  repeat rw [if_neg (by omega)]
  rw [if_pos (by omega)]

theorem windowOf_mapView (h : 0x1000 ≤ o) (h' : o < 0x1100) :
    windowOf (BitVec.ofNat 16 o) = .mapView := by
  have ho : (BitVec.ofNat 16 o).toNat = o := by simp only [BitVec.toNat_ofNat]; omega
  simp only [windowOf, ho]
  repeat rw [if_neg (by omega)]
  rw [if_pos (by omega)]

theorem windowOf_captureView (h : 0x1100 ≤ o) (h' : o < 0x11E0) :
    windowOf (BitVec.ofNat 16 o) = .captureView := by
  have ho : (BitVec.ofNat 16 o).toNat = o := by simp only [BitVec.toNat_ofNat]; omega
  simp only [windowOf, ho]
  repeat rw [if_neg (by omega)]
  rw [if_pos (by omega)]

/-! ### A read of an overlaid word -/

/-- The bytes of a word that a read at a lane of it returns. -/
theorem readLanes_lane (v : Word) (base : Nat) (lane : Fin 4) (size : Size) (hb : base % 4 = 0) :
    readLanes v (BitVec.ofNat 16 (base + lane.val)) size = (v >>> (8 * lane.val)) &&& size.mask := by
  have hl := lane.isLt
  have ho : (BitVec.ofNat 16 (base + lane.val)).toNat % 4 = lane.val := by
    simp only [BitVec.toNat_ofNat]; omega
  simp only [readLanes, laneShift, ho]

end Sys2Proof.Machine
end

