-- ==== Sys2Proof/WellFormed.lean ====
section
/-! DEFINITION. Which commands a sender should form: the data of a write fits its size, and a row that names a block names an offset inside it. A term that fails still has a meaning (it is some host write); it is only not the row it claims to be. -/

namespace Sys2Proof

/-- The largest number of the written data's bits, by the size. -/
def Size.limit : Size → Nat
  | .one => 2 ^ 8
  | .two => 2 ^ 16
  | .four => 2 ^ 32

/-- The data fits in the bytes written. -/
def dataFits (size : Size) (data : Word) : Bool := data.toNat < size.limit

/-- The offset lies in the line parameter, station descriptor or variant table block (R158, R180). -/
def inConfigBlock (o : Offset) : Bool :=
  (0x100 ≤ o.toNat && o.toNat < 0x580) || (0x600 ≤ o.toNat && o.toNat < 0x660)

/-- The offset lies in the patch rule block (R146, R158). -/
def inRuleBlock (o : Offset) : Bool := 0x700 ≤ o.toNat && o.toNat < 0x7C0

/-- The data of an access fits in its bytes. -/
def Access.wellFormed : Access → Bool
  | .read _ => true
  | .write size data => dataFits size data

/-- The check of every command. -/
def Instr.wellFormed : Instr → Bool
  | .openSetup => true
  | .closeSetup => true
  | .beginAlign => true
  | .stop => true
  | .trip => true
  | .insert _ _ _ => true
  | .remove _ => true
  | .setVariant _ _ => true
  | .quarantine _ => true
  | .release _ => true
  | .rejectBlock _ => true
  | .confirm _ => true
  | .resolveIndex _ => true
  | .hold => true
  | .resume => true
  | .releaseStation _ => true
  | .index _ => true
  | .transferNone _ => true
  | .start _ _ => true
  | .cycleStartNone _ _ => true
  | .tagGood _ _ _ => true
  | .tagNoRead _ _ _ => true
  | .gaugeDataWrite _ _ => true
  | .gaugeHeaderValid _ => true
  | .gaugeHeaderProbeFail _ => true
  | .captureClearWrite _ size data => dataFits size data
  | .viewSelectorWrite _ size data => dataFits size data
  | .flagWordWrite _ size data => dataFits size data
  | .flagEnableWrite _ size data => dataFits size data
  | .dropRecordClear _ size data => dataFits size data
  | .configurationWrite offset size data => inConfigBlock offset && dataFits size data
  | .patchRuleWrite offset size data => inRuleBlock offset && dataFits size data
  | .patchedWrite _ word _ size data => word.val != 0 && dataFits size data
  | .stationViewAccess _ _ access => access.wellFormed
  | .rovingViewAccess _ access => access.wellFormed
  | .hostWriteOther _ size data => dataFits size data
  | .transactionForward => true
  | .imageResponseOk _ => true
  | .imageResponseError => true
  | .imageResponseTimeout => true
  | .staleResponseDiscard => true
  | .atRestFall => true
  | .atRestRise => true
  | .driveFaultRise => true
  | .driveFaultFall => true
  | .estopActive => true
  | .estopInactive => true
  | .controllerResetAssert => true
  | .controllerResetDeassert => true
  | .powerOnReset _ => true
  | .clearInputChange _ _ => true
  | .presenceInputChange _ _ => true
  | .filterSettle _ _ => true
  | .timeBaseTick => true
  | .indexSlowMark => true
  | .indexLimitMark => true
  | .ackMark _ => true
  | .warnMark _ => true
  | .limitMark _ => true
  | .alignWindowExpiry => true
  | .hostRead _ _ => true

end Sys2Proof
end

