-- ==== Sys2Proof/Tests/Slice0.lean ====
section
/-! SUPPORT. The model's own tests: ill-formed commands, single steps on small states taken from the worked examples of the manual, and, for every statement with hypotheses, states that meet them. -/

open Sys2Proof Sys2Proof.Machine

namespace Sys2Proof.Tests

/-! ### Well-formedness: each check refuses a term that breaks it -/

theorem test_data_too_wide :
    (Instr.captureClearWrite 0 .one 0x100).wellFormed = false ∧
      (Instr.viewSelectorWrite 0 .two 0x10000).wellFormed = false ∧
      (Instr.flagWordWrite 0 .one 0x100).wellFormed = false ∧
      (Instr.flagEnableWrite 0 .one 0x100).wellFormed = false ∧
      (Instr.dropRecordClear 0 .two 0x10000).wellFormed = false ∧
      (Instr.configurationWrite 0x100 .one 0x100).wellFormed = false ∧
      (Instr.patchRuleWrite 0x700 .one 0x100).wellFormed = false ∧
      (Instr.patchedWrite 0 1 0 .one 0x100).wellFormed = false ∧
      (Instr.hostWriteOther 0 .one 0x100).wellFormed = false := by decide

theorem test_access_too_wide :
    (Instr.stationViewAccess 0 0 (.write .one 0x100)).wellFormed = false ∧
      (Instr.rovingViewAccess 0 (.write .two 0x10000)).wellFormed = false := by decide

theorem test_offset_outside_its_block :
    (Instr.configurationWrite 0x580 .four 3).wellFormed = false ∧
      (Instr.configurationWrite 0x660 .four 3).wellFormed = false ∧
      (Instr.patchRuleWrite 0x7C0 .four 0).wellFormed = false := by decide

theorem test_patched_word_is_not_zero :
    (Instr.patchedWrite 0 0 0 .four 0).wellFormed = false := by decide

theorem test_wellFormed_boundaries :
    (Instr.configurationWrite 0x57F .one 0xFF).wellFormed = true ∧
      (Instr.configurationWrite 0x65C .four 0).wellFormed = true ∧
      (Instr.patchRuleWrite 0x7B8 .four 0xFFFFFFFF).wellFormed = true ∧
      (Instr.patchedWrite 27 63 0 .four 0).wellFormed = true := by decide

/-! ### Helpers: a command carried to the memory's OK, and small states -/

/-- The state a step leaves, if it is a next state. -/
def nextOf (i : Instr) (s : State) : Option State :=
  match exec i s with
  | .next t => some t
  | .fault _ => none
  | .refused _ => none

/-- Arrival, forwarding and OK, as `CarriedOut` has them. -/
def carried (i : Instr) (d : Word) (s : State) : Option State :=
  ((nextOf i s).bind (nextOf .transactionForward)).bind (nextOf (.imageResponseOk d))

/-- The line as reset leaves it, in another line state. -/
def inState (l : LineState) : State :=
  { State.reset with line := { State.reset.line with state := l } }

/-- A pallet in service, with the block state given. -/
def serving (b : Block) : Pallet := { Pallet.powerOn with service := .inService, block := b }

/-- Three stations, pallets 4, 7 and 11 on them, all CONFIRMED, and 9 in the queue. -/
def loaded (l : LineState) : State :=
  ((((((((inState l).setEntry 0 ⟨some 4, .confirmed⟩).setEntry 1 ⟨some 7, .confirmed⟩).setEntry 2
    ⟨some 11, .confirmed⟩).setQueue [9]).setPallet 4 (serving .empty)).setPallet 7
    (serving .inWork)).setPallet 11 (serving .inWork)).setPallet 9 (serving .empty)

/-- The same line with a GAUGE station in the middle, reader 1 there, and reader 0's authority as given. -/
def gauged (l : LineState) (authority : Bool) : State :=
  let s := loaded l
  { s with
    config :=
      { s.config with
        descriptors :=
          (s.config.descriptors.set 0 { s.descriptor 0 with authority := authority }).set 1
            { s.descriptor 1 with role := .gauge, reader := some 1, authority := authority } } }

/-- An index in flight that has seen motion, in PRODUCING or RESTRICTED. -/
def moving (l : LineState) : State :=
  let s := loaded l
  { s with
    gate :=
      { s.gate with
        state := .indexing, motionSeen := true, permit := true
        timer := { count := 3000, running := true, due := false } } }

/-- Station 1 engaged and acknowledged, its unit at a count. -/
def engaged (count : Nat) (due acknowledged : Bool) : State :=
  let s := loaded .producing
  s.setStation 1
    { s.station 1 with
      engagement := some { casting := false, acknowledged := acknowledged }
      budget := count, budgetDue := due }

/-- A write that stands in the classifier. -/
def standing (s : State) (o : Offset) (data : Word) (tr : Treatment) (stage : Stage) : State :=
  s.holdRecord
    { kind := .write, address := s.addressOf o, outside := false, size := .four, data := data
      treatment := tr, target := s.addressOf o, sent := data, decidedCause := none, stage := stage }

/-- The cause a command is refused with, or the cause that stands. -/
def causeOf (i : Instr) (s : State) : Option Cause :=
  (nextOf i s).map fun t => t.flagUnit.report.cause

/-- The command is refused with this cause, at this place. -/
def refusedWith (i : Instr) (s : State) (cause : Cause) (place : Place) : Bool :=
  (nextOf i s).any fun t =>
    t.flagUnit.report.cause == cause &&
      (⟨t.flagUnit.report.station, t.flagUnit.report.pallet⟩ : Place) == place

/-- What the OK leaves of a snooped write that stands forwarded: the drop record and INDEX_DROPPED. -/
def dropOf (o : Offset) (w : Word) (s : State) : Option (Bool × Cause × Bool) :=
  (nextOf (.imageResponseOk 0) (standing s o w .snoop .forwarded)).map fun t =>
    (t.classifier.drop.valid, t.classifier.drop.cause, t.hasFlag .indexDropped)

/-! ### The queue and the refusals -/

theorem test_empty_queue_idles :
    State.reset.pending = [] ∧
      (match step State.reset with | .next t => t == State.reset | _ => false) = true := by decide

theorem test_front_of_the_queue_runs :
    (match step (State.reset.withPending [.estopActive, .estopInactive]) with
      | .next t => t.pins.estop && t.pending == [.estopInactive]
      | _ => false) = true := by decide

theorem test_port_busy_and_response_not_owed :
    exec .trip (standing State.reset 0x30 5 .snoop .arrived) = .fault .hostPortBusy ∧
      exec .imageResponseError State.reset = .fault .responseNotOwed :=
  ⟨rfl, rfl⟩

theorem test_second_refusal_overruns :
    (((nextOf .trip State.reset).bind (nextOf .trip)).map fun t =>
      (t.hasFlag .refused, t.hasFlag .reportOverrun, t.flagUnit.refusals,
        t.flagUnit.report.cause, t.flagUnit.report.offset)) =
      some (true, true, 2, .notInState, 0x30) := by decide

theorem test_refusal_count_stops :
    (State.reset.refuse .read false 0 .misaligned .none).flagUnit.refusals = 1 ∧
      ({ State.reset with
        flagUnit := { State.reset.flagUnit with refusals := 65535 } }.refuse .read false 0
        .misaligned .none).flagUnit.refusals = 65535 := by decide

theorem test_interrupt :
    State.reset.interrupt = false ∧
      ({ State.reset with
        flagUnit := { State.reset.flagUnit with enables := 1 } }.raise .refused).interrupt =
        true := by decide

/-- What a command puts on the bus is what stands ARRIVED. -/
theorem test_presented :
    let s := loaded .producing
    (∀ i ∈ [Instr.stop, .quarantine 7, .releaseStation 31, .index true, .tagNoRead 3 63 0,
        .viewSelectorWrite 2 .two 0x1FFFF, .hostWriteOther 0x10000 .one 0x1FF,
        .hostRead 0x100 .four], (s.presents i).isSome = true) ∧
      ((nextOf (.quarantine 7) s).bind (·.classifier.record)) =
        some (s.standing (s.busCommand 11 (pallet := 7)) .snoop) ∧
      ((nextOf (.viewSelectorWrite 2 .two 0x1FFFF) s).bind (·.classifier.record)) =
        some (s.standing ⟨.write, 0x3E, .two, 0xFFFF⟩ .snoop) ∧
      ((nextOf (.hostWriteOther 0x10000 .one 0x1FF) s).bind (·.classifier.record)) =
        some (s.standing ⟨.write, 0x10000, .one, 0xFF⟩ .pass) := by decide

/-! ### Line states -/

theorem test_setup_opens_and_closes :
    ((carried .closeSetup 0 State.reset).map fun t => (t.line.state, (t.station 2).enable)) =
        some (.prepared, true) ∧
      ((carried .openSetup 0 (inState .tripped)).map fun t => (t.line.state, t.monitor.held)) =
        some (.setup, false) := by decide

theorem test_openSetup_states :
    (inState .prepared).portsFree ∧ (inState .prepared).line.state = .prepared ∧
      (inState .stopped).line.state = .stopped ∧ (inState .tripped).line.state = .tripped ∧
      (inState .producing).line.state = .producing := by decide

theorem test_closeSetup_refusals :
    let frozen : State := { State.reset with gate := { State.reset.gate with frozen := true } }
    let bad : State :=
      { State.reset with
        config :=
          { State.reset.config with
            params := { State.reset.config.params with stationCount := 6 } } }
    let apart : State :=
      { State.reset with
        config :=
          { State.reset.config with
            params := { State.reset.config.params with indexSlow := 15000 } } }
    State.reset.portsFree ∧ State.reset.crossChecksPass = true ∧
      frozen.gate.frozen = true ∧
      bad.crossChecksPass = false ∧ Lowest 2 (fun j => bad.positionFails j = true) ∧
      apart.crossChecksPass = false ∧ (∀ k, apart.positionFails k = false) := by decide

theorem test_crossChecks_premise : 3 ≤ State.reset.stationCount := by decide

theorem test_failing_positions :
    let s := gauged .setup true
    let twice : State :=
      { s with
        config :=
          { s.config with
            descriptors := s.config.descriptors.set 2 { s.descriptor 2 with reader := some 1 } } }
    s.failingStation = none ∧ twice.failingStation = some 2 ∧ twice.positionFails 1 = false := by
  decide

theorem test_beginAlign_cases :
    let waiting := (loaded .prepared).setStatus 0 .predicted
    let pressed : State :=
      { inState .prepared with pins := { State.reset.pins with estop := true } }
    (inState .prepared).portsFree ∧
      (∀ k, (inState .prepared).isReaderStation k = true →
        ((inState .prepared).entry k).pallet = none) ∧
      (waiting.portsFree ∧ waiting.line.state = .prepared ∧ waiting.isReaderStation 0 = true ∧
        (waiting.entry 0).pallet ≠ none ∧ (waiting.entry 0).status ≠ .confirmed) ∧
      ((loaded .stopped).isReaderStation 0 = true ∧ ((loaded .stopped).entry 0).pallet ≠ none ∧
        ∀ k, (loaded .stopped).isReaderStation k = true →
          ((loaded .stopped).entry k).pallet ≠ none →
          ((loaded .stopped).entry k).status = .confirmed) ∧
      pressed.pins.estop = true ∧ pressed.line.state = .prepared := by decide

theorem test_beginAlign :
    ((carried .beginAlign 0 (inState .prepared)).map fun t => t.line.state) = some .producing ∧
      ((carried .beginAlign 0 ((loaded .stopped).setStatus 0 .predicted)).map fun t =>
        (t.line.state, t.identity.remaining, t.identity.timer.running)) =
        some (.aligning, 3, true) := by decide

theorem test_stop_and_trip :
    ((carried .stop 0 (moving .producing)).map fun t => (t.line.state, t.line.stopPending)) =
        some (.producing, true) ∧
      ((carried .stop 0 (loaded .producing)).map fun t => t.line.state) = some .stopped ∧
      ((carried .trip 0 (moving .producing)).map fun t =>
        (t.line.state, t.line.tripCause, t.gate.frozen, t.gate.permit)) =
        some (.tripped, .tripCommand, true, false) := by decide

theorem test_stop_states :
    (inState .aligning).portsFree ∧ (inState .aligning).line.state = .aligning ∧
      (moving .restricted).portsFree ∧ (moving .restricted).gate.state = .indexing ∧
      (loaded .restricted).gate.state = .idle ∧ (inState .stopped).line.state = .stopped ∧
      (inState .setup).line.state = .setup ∧ (inState .tripped).line.state = .tripped := by decide

theorem test_hold_and_resume :
    ((carried .hold 0 (engaged 2500 true true)).map fun t =>
      (t.monitor.held, (t.station 1).budget, (t.station 1).budgetDue)) =
        some (true, 2500, false) ∧
      ((carried .resume 0 (inState .aligning)).map fun t => t.monitor.held) = some false := by
  decide

theorem test_release_station :
    let late := (engaged 6000 false true).setStation 1
      { (engaged 6000 false true).station 1 with limit := true }
    late.portsFree ∧ (late.station 1).engagement ≠ none ∧ (late.station 1).limit = true ∧
      ((carried (.releaseStation 1) 0 late).map fun t =>
        ((t.station 1).engagement, (t.station 1).budget, (t.station 1).limit)) =
        some (none, 6000, true) ∧
      ((nextOf (.releaseStation 31) late).map fun t => t.flagUnit.report.cause) =
        some .badArgument ∧
      ((nextOf (.releaseStation 0) late).map fun t => t.flagUnit.report.cause) =
        some .stationState := by decide

/-! ### Pallet commands -/

theorem test_insert :
    ((carried (.insert 8 0 .queue) 0 (loaded .producing)).map fun t =>
      (t.tracking.queue, (t.pallet 8).service)) = some ([9, 8], .inService) ∧
      ((carried (.insert 8 0 (.station 2)) 0 State.reset).map fun t => t.entry 2) =
        some ⟨some 8, .predicted⟩ := by decide

theorem test_insert_refusals :
    let full := (loaded .producing).setQueue (List.replicate 36 9)
    (loaded .producing).portsFree ∧
      ((nextOf (.insert 8 1 .queue) (loaded .producing)).map fun t => t.flagUnit.report.cause) =
        some .badArgument ∧
      ((nextOf (.insert 4 0 .queue) (loaded .producing)).map fun t => t.flagUnit.report.cause) =
        some .palletState ∧
      ((nextOf (.insert 8 0 .queue) full).map fun t => t.flagUnit.report.cause) =
        some .location ∧
      ((nextOf (.insert 8 0 (.station 0)) (loaded .setup)).map fun t => t.flagUnit.report.cause) =
        some .location ∧
      ((nextOf (.insert 8 0 (.station 28)) State.reset).map fun t => t.flagUnit.report.station) =
        some (some 28) := by decide

theorem test_remove :
    ((carried (.remove 7) 0 (loaded .setup)).map fun t => (t.entry 1, (t.pallet 7).service)) =
        some (⟨none, .confirmed⟩, .out) ∧
      ((carried (.remove 9) 0 (loaded .producing)).map fun t => t.tracking.queue) = some [] := by
  decide

theorem test_remove_cases :
    (loaded .setup).portsFree ∧
      Lowest 1 (fun j => (loaded .setup).inLine j = true ∧
        ((loaded .setup).entry j).pallet = some 7) ∧
      (∀ k, (loaded .producing).inLine k = true → ((loaded .producing).entry k).pallet ≠ some 9) ∧
      9 ∈ (loaded .producing).tracking.queue ∧ 8 ∉ (loaded .producing).tracking.queue ∧
      (∀ k, (loaded .producing).inLine k = true →
        ((loaded .producing).entry k).pallet ≠ some 8) := by decide

theorem test_variant_and_reject :
    ((carried (.setVariant 4 0) 0 (loaded .prepared)).map fun t => (t.pallet 4).variant) =
        some 0 ∧
      ((carried (.rejectBlock 7) 0 (loaded .aligning)).map fun t => (t.pallet 7).block) =
        some .reject ∧
      ((nextOf (.setVariant 7 0) (loaded .prepared)).map fun t => t.flagUnit.report.cause) =
        some .blockState ∧
      ((nextOf (.rejectBlock 4) (loaded .prepared)).map fun t => t.flagUnit.report.pallet) =
        some (some 4) := by decide

theorem test_quarantine_and_release :
    let held := (loaded .producing).setService 7 .quarantine
    ((carried (.quarantine 7) 0 (loaded .producing)).map fun t => (t.pallet 7).service) =
        some .quarantine ∧
      ((carried (.quarantine 9) 0 (loaded .producing)).map fun t =>
        ((t.pallet 9).service, t.tracking.queue)) = some (.out, []) ∧
      ((carried (.release 7) 0 held).map fun t => (t.pallet 7).service) = some .inService ∧
      ((nextOf (.release 7) (loaded .producing)).map fun t => t.flagUnit.report.cause) =
        some .palletState := by decide

theorem test_confirm :
    ((carried (.confirm 2) 0 ((loaded .stopped).setStatus 2 .uncertain)).map fun t =>
      t.entry 2) = some ⟨some 11, .confirmed⟩ ∧
      ((nextOf (.confirm 3) (loaded .stopped)).map fun t => t.flagUnit.report.cause) =
        some .badArgument := by decide

theorem test_pallet_order :
    let frozen : State := { loaded .setup with gate := { State.reset.gate with frozen := true } }
    (moving .producing).gate.state = .indexing ∧ frozen.gate.frozen = true ∧
      frozen.gate.state = .idle ∧
      ((nextOf (.quarantine 7) (moving .producing)).map fun t => t.flagUnit.report.cause) =
        some .indexInFlight ∧
      ((nextOf (.remove 7) frozen).map fun t => t.flagUnit.report.cause) =
        some .resolvePending ∧
      ((nextOf (.quarantine 7) (loaded .tripped)).map fun t => t.flagUnit.report.cause) =
        some .notInState := by decide

/-! ### Resolution, shift, accounting -/

theorem test_resolve :
    let frozen : State := { loaded .setup with gate := { State.reset.gate with frozen := true } }
    frozen.portsFree ∧ frozen.line.state = .setup ∧ frozen.gate.frozen = true ∧
      ((carried (.resolveIndex 2) 0 frozen).map fun t =>
        (t.gate.frozen, t.line.cycle, t.entry 1)) =
        some (false, 0, ⟨some 7, .confirmed⟩) ∧
      ((carried (.resolveIndex 1) 0 frozen).map fun t =>
        (t.gate.frozen, t.line.cycle, t.entry 1, t.entry 0, t.tracking.queue)) =
        some (false, 1, ⟨some 4, .predicted⟩, ⟨some 9, .predicted⟩, [11]) ∧
      ((nextOf (.resolveIndex 3) frozen).map fun t => t.flagUnit.report.cause) =
        some .badArgument := by decide

theorem test_resolve_return_full :
    let s := (loaded .setup).setQueue (List.replicate 36 9)
    let frozen : State := { s with gate := { s.gate with frozen := true } }
    ((frozen.entry frozen.unloadStation).pallet = some 11 ∧
      (frozen.pallet 11).service = .inService ∧
      frozen.config.params.returnCap ≤ frozen.tracking.queue.length) ∧
      ((nextOf (.resolveIndex 1) frozen).map fun t =>
        (t.flagUnit.report.cause, t.flagUnit.report.station, t.flagUnit.report.pallet)) =
        some (.returnFull, some 2, some 11) := by decide

theorem test_shift_and_miss :
    let t := (loaded .producing).mapShift
    3 ≤ (loaded .producing).stationCount ∧
      (t.pallet 11).laps = 1 ∧ (t.pallet 11).block = .reject ∧
      t.hasFault .unloadMissed = true ∧ t.tracking.queue = [11] ∧
      (((loaded .producing).setStatus 1 .uncertain).mapShift.entry 2).status = .uncertain := by
  decide

theorem test_ungauged :
    let s := (gauged .producing true).setPallet 7
      { (gauged .producing true).pallet 7 with ungauged := 3 }
    let t := s.ungaugedAccounting (some 7)
    (s.gaugedPallet = some 7 ∧ (s.mapShift).gaugedPallet = some 4 ∧ 7 ∉ s.tracking.queue) ∧
      (t.pallet 7).ungauged = 4 ∧ (t.pallet 7).service = .quarantine ∧
      t.hasFlag .quarantined = true := by decide

theorem test_ungauged_premise :
    let s := (gauged .producing true).mapShift
    s.gaugedPallet ≠ some 7 ∧ 7 ∉ s.tracking.queue ∧ (s.pallet 7).gauged = false ∧
      (s.pallet 4).gauged = false := by decide

/-! ### Index request and cycle start -/

theorem test_index_accepted :
    ((carried (.index false) 0 (loaded .producing)).map fun t =>
      (t.gate.state, t.gate.permit, t.gate.timer.running)) = some (.indexing, true, true) ∧
      ((carried (.index true) 0 ((loaded .restricted).setStatus 0 .predicted)).map fun t =>
        (t.gate.state, t.hasFault .tagMissing)) = some (.indexing, true) := by decide

theorem test_index_refusals :
    (loaded .producing).portsFree ∧
      causeOf (.index false) (loaded .stopped) = some .notInState ∧
      causeOf (.index false)
        { loaded .producing with line := { (loaded .producing).line with stopPending := true } } =
        some .stopPending ∧
      causeOf (.index false) (moving .producing) = some .indexInFlight ∧
      causeOf (.index false)
        { loaded .producing with monitor := { (loaded .producing).monitor with held := true } } =
        some .held ∧
      causeOf (.index false) { loaded .producing with pins := ⟨true, false, true, false⟩ } =
        some .estopActive ∧
      causeOf (.index false) { loaded .producing with pins := ⟨true, true, false, false⟩ } =
        some .driveFaulted ∧
      causeOf (.index false) { loaded .producing with pins := ⟨false, false, false, false⟩ } =
        some .transferNotAtRest := by decide

theorem test_index_refusals_by_station :
    refusedWith (.index false) (engaged 5 false true)
        .stationEngaged ⟨some 1, some 7⟩ = true ∧
      refusedWith (.index false) ((loaded .producing).setStation 2
        { (loaded .producing).station 2 with clear := .settled false })
        .stationNotClear ⟨some 2, some 11⟩ = true ∧
      refusedWith (.index false) ((loaded .producing).setQueue (List.replicate 36 9))
        .returnFull ⟨some 2, some 11⟩ = true ∧
      refusedWith (.index false) (loaded .restricted)
        .overrideRequired ⟨none, none⟩ = true ∧
      refusedWith (.index false) ((loaded .producing).setStatus 0 .predicted)
        .tagPending ⟨some 0, some 4⟩ = true ∧
      refusedWith (.index false) ((loaded .producing).setStatus 1 .uncertain)
        .uncertainEntry ⟨some 1, some 7⟩ = true := by decide

theorem test_index_lowest :
    Lowest 1 (fun k => (engaged 5 false true).inLine k = true ∧
      ((engaged 5 false true).station k).engagement ≠ none) := by decide

theorem test_start :
    ((carried (.start 0 true) 0 (loaded .producing)).map fun t => (t.station 0).engagement) =
        some (some ⟨true, false⟩) ∧
      ((nextOf (.start 2 true) (loaded .producing)).map fun t => t.flagUnit.report.cause) =
        some .malformed ∧
      ((nextOf (.start 3 false) (loaded .producing)).map fun t => t.flagUnit.report.cause) =
        some .noStation := by decide

theorem test_start_refusals :
    refusedWith (.start 1 false) (loaded .prepared)
        .notInState ⟨some 1, some 7⟩ = true ∧
      refusedWith (.start 1 false) (moving .producing)
        .indexInFlight ⟨some 1, some 7⟩ = true ∧
      refusedWith (.start 1 false) (engaged 5 false true)
        .stationEngaged ⟨some 1, some 7⟩ = true ∧
      refusedWith (.start 1 false) ((loaded .producing).setEntry 1 .vacant)
        .emptyStation ⟨some 1, none⟩ = true ∧
      refusedWith (.start 1 false) ((loaded .producing).setStatus 1 .uncertain)
        .uncertainEntry ⟨some 1, some 7⟩ = true ∧
      refusedWith (.start 1 false) ((loaded .producing).setBlock 7 .empty)
        .blockState ⟨some 1, some 7⟩ = true := by
  decide

theorem test_none_codes :
    (carried (.transferNone true) 0 (moving .producing)).isSome = true ∧
      (carried (.cycleStartNone 0 true) 0 (loaded .setup)).isSome = true ∧
      ((nextOf (.transferNone false) (loaded .tripped)).map fun t => t.flagUnit.report.cause) =
        some .notInState ∧
      ((nextOf (.cycleStartNone 1 true) (loaded .setup)).map fun t => t.flagUnit.report.cause) =
        some .malformed := by decide

/-- A snooped write that stands forwarded and whose checks fail at its OK: one of each kind. -/
theorem test_dropped :
    let estop : State :=
      { loaded .producing with pins := { State.reset.pins with estop := true } }
    dropOf 0x30 21 (loaded .tripped) = some (true, .notInState, false) ∧
      dropOf 0x34 1 estop = some (true, .estopActive, true) ∧
      dropOf 0x38 (tagWord 0 0 4 59) (loaded .tripped) = some (true, .notInState, false) ∧
      dropOf 0x50 (headerWord 7 0) (loaded .producing) = some (true, .notInState, false) := by decide

theorem test_dropped_premises :
    readGateCommand 21 = .ok .resume ∧ readTransfer 1 = some (true, false) ∧
      firstFailure ((loaded .tripped).commandChecks .resume) = some .notInState ∧
      firstFailure (loaded .tripped).tagChecks = some .notInState ∧
      firstFailure ((loaded .producing).headerChecks (readHeader (headerWord 7 0)).pallet) =
        some .notInState := ⟨rfl, rfl, by decide, by decide, by decide⟩

/-- A transaction carried out from a state, and the same one forwarded in it: a snooped write and an overlaid read. -/
theorem test_answered_premises :
    let s := loaded .producing
    (∃ u, CarriedOut (.quarantine 7) (s.standing (s.busCommand 11 (pallet := 7)) .snoop) 0 s u) ∧
      ∃ u, CarriedOut (.hostRead 0x0C .four) (s.standing ⟨.read, 0x0C, .four, 0⟩ .overlay) 7 s u :=
  ⟨⟨_, rfl, _, rfl, rfl⟩, ⟨_, rfl, _, rfl, rfl⟩⟩

/-- A trip between the forwarding and the OK: the flag word shows what the trip left. -/
theorem test_answered_later :
    let s := loaded .producing
    let read := s.standing ⟨.read, 0x0C, .four, 0⟩ .overlay
    let waiting := s.holdRecord { read with stage := .forwarded }
    (((nextOf .estopActive waiting).bind (nextOf (.imageResponseOk 7))).map fun t =>
      t.classifier.reply) = some (.okData 0x20004) ∧
      ((carried (.hostRead 0x0C .four) 7 (loaded .tripped)).map fun t => t.classifier.reply) =
        some (.okData 0) := by decide

theorem test_dropped_awaits :
    let s := standing (loaded .tripped) 0x30 21 .snoop .forwarded
    (s.classifier.record.any fun t =>
      decide (s.awaits t) && t.kind == .write && t.treatment == .snoop &&
        t.offset == commandWord) = true := by decide

/-! ### Tags -/

theorem test_tag_lowest :
    Lowest 0 (fun j => (gauged .aligning true).inLine j = true ∧
      ((gauged .aligning true).descriptor j).reader = some 0) ∧
      Lowest 1 (fun j => (gauged .aligning true).inLine j = true ∧
        ((gauged .aligning true).descriptor j).reader = some 1) ∧
      (∀ k, (gauged .aligning true).inLine k = true →
        ((gauged .aligning true).descriptor k).reader ≠ some 3) ∧
      (gauged .aligning true).portsFree ∧ (gauged .aligning true).gate.state = .idle := by decide

theorem test_tag_match :
    ((carried (.tagGood 0 4 59) 0 ((gauged .producing false).setStatus 0 .predicted)).map fun t =>
      (t.entry 0, t.identity.tag.map (·.outcome))) =
        some (⟨some 4, .confirmed⟩, some .matched) ∧
      ((carried (.tagGood 0 4 59) 0 ((gauged .aligning false).setStatus 0 .predicted)).map fun t =>
        t.line.state) = some .producing := by decide

theorem test_tag_mismatch :
    let trying : State :=
      { gauged .aligning false with
        identity := { State.reset.identity with remaining := 2, timer := ⟨400, true, false⟩ } }
    ((carried (.tagGood 1 27 36) 0 trying).map fun t =>
      (t.line.state, t.identity.remaining, t.entry 1, t.identity.timer)) =
        some (.aligning, 1, ⟨some 7, .predicted⟩, ⟨0, true, false⟩) ∧
      ((carried (.tagGood 1 27 36) 0
        { trying with identity := { trying.identity with remaining := 1 } }).map fun t =>
        (t.line.state, t.hasFlag .alignAborted)) = some (.stopped, true) ∧
      ((carried (.tagGood 1 27 36) 0 (gauged .stopped false)).map fun t => t.entry 1) =
        some ⟨some 7, .uncertain⟩ := by decide

theorem test_tag_correction :
    ((carried (.tagGood 1 31 32) 0 (gauged .producing true)).map fun t =>
      (t.entry 1, (t.pallet 31).block, (t.pallet 7).service, (t.pallet 7).lost)) =
        some (⟨some 31, .confirmed⟩, .inWork, .out, true) ∧
      ((carried (.tagGood 1 31 32) 0 (gauged .aligning true)).map fun t =>
        (t.line.state, t.hasFlag .alignCorrected)) = some (.producing, true) ∧
      ((carried (.tagGood 1 31 32) 0 ((gauged .aligning true).setStatus 0 .predicted)).map fun t =>
        (t.line.state, t.identity.corrected)) = some (.aligning, true) ∧
      ((carried (.tagGood 1 9 54) 0 (gauged .restricted true)).map fun t =>
        (t.line.state, t.line.tripCause)) = some (.tripped, .mapConflict) := by decide

theorem test_tag_noRead_and_refused :
    ((carried (.tagNoRead 1 63 0) 0 (gauged .stopped true)).map fun t =>
      t.identity.tag.map (·.outcome)) = some (some .noRead) ∧
      ((nextOf (.tagNoRead 3 0 0) (gauged .stopped true)).map fun t => t.flagUnit.report.cause) =
        some .malformed ∧
      ((nextOf (.tagGood 1 7 7) (gauged .stopped true)).map fun t => t.flagUnit.report.cause) =
        some .malformed ∧
      ((nextOf (.tagGood 1 7 56) (gauged .tripped true)).map fun t => t.flagUnit.report.cause) =
        some .notInState := by decide

/-! ### Gauge results -/

theorem test_gauge_data :
    ((carried (.gaugeDataWrite .y 0xFFFFFFB7) 0 (moving .producing)).map fun t =>
      t.compensation) = some ⟨0, -73, 0⟩ := by decide

theorem test_gauge_result :
    let before := (gauged .producing true).setPallet 7
      { (gauged .producing true).pallet 7 with offset := ⟨30, -10, 0⟩, ungauged := 1 }
    let s : State :=
      { before with
        compensation := ⟨12, -73, 4⟩
        config :=
          { before.config with params := { before.config.params with offsetLimit := 100 } } }
    s.portsFree ∧ (s.entry 1).pallet = some 7 ∧ 7 ∉ s.tracking.queue ∧
      (∀ j, s.inLine j = true → ((s.descriptor j).role = .gauge ↔ j = 1)) ∧
      (∃ t, carried (.gaugeHeaderValid 7) 0 s = some t ∧
        (t.pallet 7).offset = ⟨42, -60, 4⟩ ∧ (t.pallet 7).ungauged = 0 ∧
        t.hasFlag .stepLimited = true ∧ t.hasFlag .quarantined = false) :=
  ⟨by decide, by decide, by decide, by decide, _, rfl, by decide, by decide, by decide, by decide⟩

theorem test_gauge_clamped :
    let before := (gauged .producing true).setPallet 7
      { (gauged .producing true).pallet 7 with offset := ⟨42, -60, 4⟩ }
    let s : State :=
      { before with
        compensation := ⟨-2, -65, 1⟩
        config :=
          { before.config with params := { before.config.params with offsetLimit := 100 } } }
    ((carried (.gaugeHeaderValid 7) 0 s).map fun t =>
      ((t.pallet 7).offset, (t.pallet 7).service, t.hasFlag .quarantined)) =
      some (⟨40, -100, 5⟩, .quarantine, true) := by decide

theorem test_gauge_header_refusals :
    (loaded .producing).gaugeStation = none ∧ (gauged .producing true).gaugeStation = some 1 ∧
      ((nextOf (.gaugeHeaderProbeFail 7) (loaded .producing)).map fun t =>
        t.flagUnit.report.cause) = some .notInState ∧
      ((nextOf (.gaugeHeaderValid 4) (gauged .producing true)).map fun t =>
        (t.flagUnit.report.cause, t.flagUnit.report.station)) =
        some (.gaugeMismatch, some 1) ∧
      (carried (.gaugeHeaderProbeFail 7) 0 (gauged .producing true)).isSome = true ∧
      ((nextOf (.gaugeHeaderValid 7)
        { gauged .producing true with gate := (moving .producing).gate }).map fun t =>
        t.flagUnit.report.cause) = some .gaugeLate := by decide

/-! ### Snooped words, configuration, patching -/

theorem test_captures_cleared :
    let s := (loaded .producing).setStation 3
      { (loaded .producing).station 3 with capture := ⟨3712, true, true⟩ }
    ((carried (.captureClearWrite 0 .one 8) 0 s).map fun t => (t.station 3).capture) =
        some ⟨3712, false, false⟩ ∧
      ((nextOf (.captureClearWrite 1 .two 8) s).map fun t => t.flagUnit.report.cause) =
        some .misaligned := by decide

theorem test_flag_words :
    let s := ((loaded .producing).raise .refused).raise .indexDone
    ((carried (.flagWordWrite 0 .four 1) 0 s).map fun t =>
      (t.hasFlag .refused, t.hasFlag .indexDone)) = some (false, true) ∧
      ((carried (.flagEnableWrite 1 .one 0xFF) 0 s).map fun t => t.flagUnit.enables) =
        some 0xFF00 ∧
      ((carried (.viewSelectorWrite 0 .four 27) 0 s).map fun t => t.classifier.selector) =
        some 27 := by decide

theorem test_drop_record_cleared :
    let s : State :=
      { loaded .producing with
        classifier :=
          { (loaded .producing).classifier with
            drop := { valid := true, offset := 0x34, cause := .estopActive, cycle := 3 } } }
    ((carried (.dropRecordClear 0 .one 1) 0 s).map fun t => t.classifier.drop) =
        some { valid := false, offset := 0x34, cause := .estopActive, cycle := 3 } ∧
      ((nextOf (.dropRecordClear 3 .four 1) s).map fun t => t.flagUnit.report.cause) =
        some .misaligned := by decide

set_option maxRecDepth 8000 in
theorem test_configuration_written :
    ((carried (.configurationWrite 0x100 .one 6) 0 State.reset).map fun t => t.stationCount) =
        some 6 ∧
      ((carried (.configurationWrite 0x200 .one 0) 0 State.reset).map fun t =>
        (t.descriptor 0).role) = some .load ∧
      ((nextOf (.configurationWrite 0x100 .one 2) State.reset).map fun t =>
        t.flagUnit.report.cause) = some .badConfig ∧
      ((nextOf (.configurationWrite 0x100 .one 6) (loaded .prepared)).map fun t =>
        t.flagUnit.report.cause) = some .notInState := by decide

theorem test_configuration_blocks :
    State.reset.portsFree ∧ State.reset.paramsTake 0 .one 6 = true ∧
      State.reset.paramsTake 0 .one 29 = false ∧
      State.reset.descriptorTakes 27 0 .one 3 = true ∧
      State.reset.variantTakes 5 0 .one 9 = true := by decide

set_option maxRecDepth 4000 in
theorem test_parameter_laws :
    (28 : Word).toNat < 256 ∧ (loaded .setup).paramsTake 0 .one 3 = true ∧
      ((loaded .setup).setEntry 5 ⟨some 1, .predicted⟩).paramsTake 0 .one 5 = false ∧
      ((loaded .setup).setPallet 4
        { (loaded .setup).pallet 4 with offset := ⟨0, -400, 0⟩ }).paramsTake 0x14 .four 399 =
        false := by decide

/-- Values at the ends of their ranges, the reserved bytes, and a field half written. -/
theorem test_field_checks :
    let s := State.reset
    (s.paramsTake 3 .one 15 = true ∧ s.paramsTake 3 .one 16 = false ∧
      s.paramsTake 0x0F .one 1 = false ∧ s.paramsTake 0x10 .two 2001 = false ∧
      s.paramsTake 0x11 .one 8 = false ∧ s.paramsTake 0x18 .four 0 = true) ∧
      (s.descriptorTakes 3 1 .one 0xFF = true ∧ s.descriptorTakes 3 1 .one 4 = false ∧
        s.descriptorTakes 3 4 .two 0 = false ∧ s.descriptorTakes 3 0x0A .one 1 = false) ∧
      (s.variantTakes 5 0 .four 0xFAFFFF = true ∧ s.variantTakes 5 2 .one 251 = false ∧
        s.variantTakes 5 7 .one 16 = false ∧ s.variantTakes 5 3 .one 1 = false) ∧
      s.ruleTakes 0 0 .one 8 = false ∧ s.ruleTakes 0 4 .one 7 = false ∧
      s.ruleTakes 0 7 .one 1 = false ∧ s.ruleTakes 0 1 .one 28 = false := by decide

theorem test_patch_rule_written :
    ((carried (.patchRuleWrite 0x700 .four 0x02020001) 0 State.reset).map fun t =>
      ((t.rule 0).enabled, (t.rule 0).station)) = some (true, 0) ∧
      State.reset.ruleTakes 23 0 .one 1 = true ∧ State.reset.ruleTakes 0 2 .one 0 = false := by
  decide

theorem test_patch_rule_twice :
    let s : State :=
      { State.reset with
        patch := State.reset.patch.set 1 { PatchRule.powerOn with enabled := true, word := 2 } }
    (s.rule 1).enabled = true ∧ s.ruleTakes 0 0 .four 0x02020001 = false ∧
      s.ruleTakes 0 0 .four 0x02030001 = true := by decide

/-- Rule 5 of the manual's example, at station 1: HALF SIGNED ADD_Y on word 5. -/
def patching (trap : Bool) : State :=
  let s := (loaded .producing).setPallet 7
    { (loaded .producing).pallet 7 with offset := ⟨35, 90, -12⟩ }
  { s with
    patch :=
      s.patch.set 5
        { enabled := true, station := 1, word := 5, width := .half, signed := true
          op := .addY, trap := trap } }

theorem test_patched :
    ((nextOf (.patchedWrite 1 5 0 .four 32700) (patching false)).bind fun t =>
      t.classifier.record.map (·.sent)) = some (BitVec.ofInt 32 (-32746)) ∧
      ((carried (.patchedWrite 1 5 0 .two 32700) 0 (patching false)).map fun t =>
        (t.hasFlag .patchOverflow, t.hasFault .patchOverflow)) = some (true, true) := by decide

theorem test_patch_refusals :
    refusedWith (.patchedWrite 1 5 1 .one 32700) (patching false)
        .partialPatch ⟨some 1, some 7⟩ = true ∧
      refusedWith (.patchedWrite 1 5 0 .two 32700) (patching true)
        .patchOverflow ⟨some 1, some 7⟩ = true ∧
      refusedWith (.patchedWrite 1 5 0 .one 32700) (patching true)
        .partialPatch ⟨some 1, some 7⟩ = true ∧
      refusedWith (.patchedWrite 1 5 0 .two 32700) ((patching true).setStatus 1 .uncertain)
        .uncertainEntry ⟨some 1, some 7⟩ = true ∧
      refusedWith (.patchedWrite 1 5 1 .two 32700) (patching true)
        .misaligned ⟨none, none⟩ = true := by decide

theorem test_patch_premises :
    (patching false).portsFree ∧ (patching false).inLine 1 = true ∧
      (∀ j, ((patching false).rule j).names 1 5 = true ↔ j = 5) ∧
      (∀ j, ((patching false).rule j).names 1 63 = false) ∧
      (patching false).inLine 3 = false := by decide

/-- The cycle-start word ill formed, and the windows read and beyond the line. -/
theorem test_command_windows :
    let s := loaded .producing
    refusedWith (.patchedWrite 1 0 0 .four 0x101) s .malformed ⟨some 1, some 7⟩ = true ∧
      refusedWith (.patchedWrite 0 0 0 .four 0x10) s .malformed ⟨some 0, some 4⟩ = true ∧
      refusedWith (.patchedWrite 0 0 1 .one 0) s .malformed ⟨some 0, some 4⟩ = true ∧
      refusedWith (.patchedWrite 3 0 0 .four 1) s .noStation ⟨none, none⟩ = true ∧
      refusedWith (.hostRead 0x2300 .four) s .noStation ⟨none, none⟩ = true ∧
      ((carried (.hostRead 0x2204 .two) 0x12345 s).map fun t => t.classifier.reply) =
        some (.okData 0x2345) := by decide

/-! ### Views, the rest of the image, the bus -/

theorem test_views :
    ((nextOf (.stationViewAccess 1 12 (.write .four 5)) (loaded .producing)).bind fun t =>
      t.classifier.record.map (·.target)) = some 0x670C ∧
      ((carried (.rovingViewAccess 4 (.read .four)) 99 (loaded .producing)).map fun t =>
        t.classifier.reply) = some (.okData 99) ∧
      ((nextOf (.stationViewAccess 3 0 (.read .one)) (loaded .producing)).map fun t =>
        t.flagUnit.report.cause) = some .noStation ∧
      ((nextOf (.stationViewAccess 1 0 (.read .one))
        ((loaded .producing).setStatus 1 .uncertain)).map fun t => t.flagUnit.report.cause) =
        some .uncertainEntry := by decide

theorem test_roving_beyond :
    let s : State :=
      { loaded .producing with
        classifier := { (loaded .producing).classifier with selector := 27 } }
    ((nextOf (.rovingViewAccess 0 (.read .one)) s).map fun t =>
      (t.flagUnit.report.cause, t.flagUnit.report.station)) = some (.noStation, some 27) := by
  decide

theorem test_other_accesses :
    (loaded .producing).insideImage 0xFFFF = true ∧
      (loaded .producing).insideImage 0x10000 = false ∧
      (carried (.hostWriteOther 0x10001 .four 7) 0 (loaded .producing)).isSome = true ∧
      ((nextOf (.hostWriteOther 0x800 .four 7) (loaded .producing)).map fun t =>
        t.flagUnit.report.cause) = some .readOnly ∧
      ((nextOf (.hostRead 0x802 .four) (loaded .producing)).map fun t =>
        (t.flagUnit.report.cause, t.flagUnit.report.kind, t.flagUnit.report.offset)) =
        some (.misaligned, .read, 0x802) := by decide

/-- The first and last words of the read-only and of the passed ranges. -/
theorem test_range_boundaries :
    let refused (o : Address) := causeOf (.hostWriteOther o .four 7) (loaded .setup)
    ([0x00, 0x08, 0x14, 0x1C, 0x24, 0x28, 0x800, 0x11DC].all fun o =>
      refused o == some .readOnly) = true ∧
      ([0x54, 0xFC, 0x580, 0x5FC, 0x660, 0x6FC, 0x7C0, 0x7FC, 0x11E0, 0x1FFC, 0x3C00, 0x3FFC,
        0x5D00, 0xFFFC].all fun o =>
        (carried (.hostWriteOther o .four 7) 0 (loaded .setup)).isSome) = true := by decide

/-- Ill-formed writes of the gate control block, and its unused word. -/
theorem test_malformed_words :
    let s := loaded .producing
    let refused (o : Address) (z : Size) (w : Word) (cause : Cause) (place : Place) : Bool :=
      refusedWith (.hostWriteOther o z w) s cause place
    refused 0x30 .four 6 .unknownCommand ⟨none, none⟩ = true ∧
      refused 0x30 .four 0x10008 .malformed ⟨none, none⟩ = true ∧
      refused 0x30 .two 21 .malformed ⟨none, none⟩ = true ∧
      refused 0x34 .four 2 .malformed ⟨none, none⟩ = true ∧
      refused 0x38 .four 0x3B0404 .malformed ⟨none, some 4⟩ = true ∧
      refused 0x38 .four 0x3B0420 .malformed ⟨none, none⟩ = true ∧
      refused 0x4C .two 1 .malformed ⟨none, none⟩ = true ∧
      refused 0x50 .four 0x207 .malformed ⟨none, some 7⟩ = true ∧
      (carried (.hostWriteOther 0x2E .two 7) 0 s).isSome = true ∧
      ((carried (.hostRead 0x52 .two) 9 s).map fun t => t.classifier.reply) =
        some (.okData 9) := by decide

/-- One overlaid word of each window: line status 0, the pallet in the queue, the map, a station, the line parameters, a descriptor, a variant, a rule. -/
theorem test_overlaid_words :
    let s := gauged .producing true
    (([0x00, 0x924, 0x920, 0x1000, 0x1040, 0x1044, 0x1108, 0x100, 0x220, 0x602, 0x700] :
        List Address).map fun o =>
          ((carried (.hostRead o (if o = 0x602 then .two else .four)) 7 s).bind fun t =>
          match t.classifier.reply with | .okData v => some v | _ => none)) =
      [some 3, some 0, some 0x2000001, some 0x1870184, some 1, some 0x89, some 0x1000000,
        some 0x5012403, some 0x10102, some 100, some 0x2010000] := by decide

theorem test_located :
    (loaded .producing).tracking.queue[0]? = some 9 ∧
      Lowest 1 (fun k => (loaded .producing).inLine k = true ∧
        ((loaded .producing).entry k).pallet = some 7) := by decide

theorem test_overlaid_reads :
    ((carried (.hostRead 0x0C .four) 0 ((loaded .producing).raise .indexDropped)).map fun t =>
      t.classifier.reply) = some (.okData 0x200000) ∧
      ((carried (.hostRead 0x1004 .four) 0 (loaded .producing)).map fun t =>
        t.classifier.reply) = (carried (.hostRead 0x1004 .four) 7 (loaded .producing)).map fun t =>
        t.classifier.reply := by decide

theorem test_forward_and_errors :
    let casting := standing (loaded .producing) 0x2000 0x101 (.cycleStart 0 true) .arrived
    let out := nextOf .transactionForward casting
    (out.map fun t => (t.station 0).engagement) = some (some ⟨true, false⟩) ∧
      ((out.bind (nextOf .imageResponseError)).map fun t =>
        ((t.station 0).engagement, t.flagUnit.report.station, t.flagUnit.report.pallet)) =
        some (none, some 0, some 4) := by decide

/-- Nothing is forwarded twice, and the places of an image error. -/
theorem test_forwarded_already :
    let s := standing (loaded .producing) 0x4104 7 .redirect .forwarded
    nextOf .transactionForward s = some s ∧ s.portPlace false 0x4104 = ⟨some 1, some 7⟩ ∧
      s.portPlace false 0x22FC = ⟨some 2, some 11⟩ ∧ s.portPlace false 0x2300 = .none ∧
      s.portPlace false 0x5C00 = ⟨some 0, some 4⟩ ∧ s.portPlace true 0x4104 = .none ∧
      ((nextOf .imageResponseError s).map fun t =>
        (t.flagUnit.report.station, t.flagUnit.report.pallet)) = some (some 1, some 7) := by decide

theorem test_awaits_and_owed :
    let t : Transaction :=
      { kind := .write, address := 0x10000, outside := true, size := .four, data := 0
        treatment := .pass, target := 0x10000, sent := 0, decidedCause := none
        stage := .forwarded }
    let s : State :=
      { loaded .producing with
        classifier :=
          { (loaded .producing).classifier with
            record := some t, timer := { count := 2, running := true } } }
    s.awaits t ∧
      ((nextOf .imageResponseTimeout s).map fun u =>
        (u.classifier.stale, u.hasFlag .imageTimeout, u.classifier.reply)) =
        some (true, true, .error) ∧
      (((nextOf .imageResponseTimeout s).bind (nextOf .staleResponseDiscard)).map fun u =>
        u.classifier.stale) = some false := by decide

/-- The response to a transaction forwarded before power-on reset: nothing waits for it (log 33). -/
theorem test_response_after_power_on :
    let s := standing (loaded .producing) 0x30 21 .snoop .forwarded
    ((nextOf (.powerOnReset 0) s).map fun t =>
      (t.classifier.record, t.classifier.stale, nextOf (.imageResponseOk 0) t)) =
      some (none, false, none) := by decide

theorem test_stale_port :
    let s : State :=
      { loaded .producing with
        classifier := { (loaded .producing).classifier with stale := true } }
    s.classifier.stale = true ∧ s.classifier.record = none ∧ s.insideImage 0x10000 = false ∧
      ((nextOf (.hostRead 0x10000 .four) s).map fun t =>
        (t.flagUnit.report.cause, t.flagUnit.report.outside, t.hasFlag .imageTimeout)) =
        some (.imageError, true, false) := by decide

/-! ### Completion, field inputs, time -/

theorem test_completion :
    let s := moving .producing
    s.gate.state = .indexing ∧ s.gate.motionSeen = true ∧ 3 ≤ s.stationCount ∧
      s.line.state = .producing ∧
      ((nextOf .atRestRise s).map fun t => (t.gate.state, t.gate.capture)) =
        some (.idle, ⟨3000, true, false⟩) ∧
      ((nextOf .atRestRise s).map fun t => (t.entry 0, t.entry 1, t.tracking.queue)) =
        some (⟨some 9, .uncertain⟩, ⟨some 4, .uncertain⟩, [11]) ∧
      ((nextOf .atRestRise s).map fun t => (t.line.cycle, t.line.failed)) = some (1, 1) := by
  decide

theorem test_completion_presence :
    let s := moving .restricted
    let seen : State :=
      { s with
        monitor :=
          { s.monitor with
            stations := Vector.ofFn fun k =>
              { s.station k with presence := .settled true } } }
    seen.line.state = .restricted ∧
      ((nextOf .atRestRise (seen.setBlock 11 .empty)).map fun t =>
        (t.entry 1, t.hasFlag .presenceMismatch, t.line.clean, t.line.last)) =
        some (⟨some 4, .predicted⟩, false, 1, 0) := by decide

theorem test_field_inputs :
    ((nextOf .atRestFall { moving .producing with
      gate := { (moving .producing).gate with motionSeen := false } }).map fun t =>
      t.gate.motionSeen) = some true ∧
      ((nextOf .driveFaultRise (moving .producing)).map fun t =>
        (t.line.tripCause, t.hasFlag .driveFault)) = some (.driveFault, true) ∧
      ((nextOf .driveFaultFall (loaded .producing)).map fun t => t.pins.driveFault) =
        some false ∧
      ((nextOf .estopActive (loaded .prepared)).map fun t => t.line.state) = some .tripped ∧
      ((nextOf .controllerResetAssert (loaded .prepared)).map fun t => t.line.state) =
        some .prepared ∧
      ((nextOf .controllerResetAssert (loaded .stopped)).map fun t => t.line.tripCause) =
        some .controllerReset := by decide

theorem test_power_on_reset :
    ((nextOf (.powerOnReset 0x4000) (moving .producing)).map fun t =>
      (t.classifier.base, t.line.state, t.gate.state, t.tracking.queue)) =
      some (0x4000, .setup, .idle, []) := by decide

theorem test_filters :
    let low := (nextOf (.clearInputChange 1 false) (engaged 87 false false))
    let due := (engaged 87 false false).setStation 1
      { (engaged 87 false false).station 1 with clear := ⟨false, true, .pending false 5 true⟩ }
    (low.map fun t => (t.station 1).clear) = some ⟨false, true, .pending false 0 false⟩ ∧
      ((nextOf (.filterSettle 1 .clear) due).map fun t =>
        ((t.station 1).clear.filtered, (t.station 1).engagement)) =
        some (false, some ⟨false, true⟩) ∧
      ((nextOf (.presenceInputChange 0 true) State.reset).map fun t => (t.station 0).presence) =
        some ⟨true, false, .pending true 0 false⟩ := by decide

/-- With FILTER_MS 0, clear falls during an index, and rises at a station engaged and acknowledged. -/
theorem test_clear_events :
    let quick (s : State) : State :=
      { s with config := { s.config with params := { s.config.params with filterMs := 0 } } }
    let working := (quick (engaged 6000 false true)).setStation 1
      { (quick (engaged 6000 false true)).station 1 with
        clear := .settled false, capture := ⟨3712, true, false⟩ }
    (quick (moving .producing)).config.params.filterMs = 0 ∧
      ((nextOf (.clearInputChange 1 false) (quick (moving .producing))).map fun t =>
        (t.line.state, t.line.tripCause)) = some (.tripped, .clearLost) ∧
      ((nextOf (.clearInputChange 1 true) working).map fun t =>
        ((t.station 1).capture, (t.station 1).engagement, t.hasFlag .captureOverwrite)) =
        some (⟨6000, true, true⟩, none, true) := by decide

theorem test_clear_claims :
    let quick (s : State) : State :=
      { s with config := { s.config with params := { s.config.params with filterMs := 0 } } }
    let ready (k : StationNo) : State :=
      (quick (loaded .producing)).setStation k
        { (loaded .producing).station k with
          clear := .settled false, engagement := some ⟨true, true⟩ }
    ((nextOf (.clearInputChange 0 true) (ready 0)).map fun t => (t.pallet 4).block) =
        some .inWork ∧
      ((nextOf (.clearInputChange 2 true) (ready 2)).map fun t => (t.pallet 11).block) =
        some .empty := by decide

set_option maxRecDepth 4000 in
theorem test_tick :
    (moving .producing).nothingDue ∧
      ((nextOf .timeBaseTick (moving .producing)).map fun t => t.gate.timer) =
        some ⟨3001, true, false⟩ ∧
      ((nextOf .timeBaseTick { moving .producing with
        gate := { (moving .producing).gate with timer := ⟨7999, true, false⟩ } }).map fun t =>
        t.gate.timer) = some ⟨7999, true, true⟩ ∧
      ((nextOf .timeBaseTick (engaged 5999 false true)).map fun t =>
        (t.station 1).budget) = some 6000 := by decide

set_option maxRecDepth 4000 in
/-- A boundary still due is taken by the next tick. -/
theorem test_tick_due :
    let s : State :=
      { moving .producing with
        gate := { (moving .producing).gate with timer := ⟨7999, true, true⟩ } }
    ¬s.nothingDue ∧
      ((nextOf .timeBaseTick s).map fun t => (t.gate.timer, t.hasFlag .slowIndex)) =
        some (⟨8001, true, false⟩, true) := by decide

theorem test_index_marks :
    let at0 (n : Nat) : State :=
      { moving .producing with gate := { (moving .producing).gate with timer := ⟨n, true, true⟩ } }
    ((nextOf .indexSlowMark (at0 7999)).map fun t => (t.hasFlag .slowIndex, t.gate.timer)) =
        some (true, ⟨8000, true, false⟩) ∧
      ((nextOf .indexLimitMark (at0 14999)).map fun t => (t.line.tripCause, t.gate.timer)) =
        some (.indexTimeout, ⟨15000, false, false⟩) := by decide

theorem test_align_window :
    let expiring (n : Nat) : State :=
      { (gauged .aligning false).setStatus 0 .uncertain with
        identity :=
          { State.reset.identity with remaining := n, timer := ⟨9999, true, true⟩ } }
    (expiring 2).line.state = .aligning ∧ (expiring 2).isReaderStation 0 = true ∧
      ((expiring 2).entry 0).status ≠ .confirmed ∧
      ((nextOf .alignWindowExpiry (expiring 2)).map fun t =>
        (t.identity.remaining, t.entry 0, t.identity.timer)) =
        some (1, ⟨some 4, .predicted⟩, ⟨0, true, false⟩) ∧
      ((nextOf .alignWindowExpiry (expiring 1)).map fun t =>
        (t.line.state, t.identity.aborted)) = some (.stopped, true) := by decide

theorem test_budget_marks :
    ((nextOf (.ackMark 1) (engaged 999 true false)).map fun t =>
      ((t.station 1).engagement, (t.station 1).noAck, t.hasFault .noAck)) =
        some (none, true, true) ∧
      ((nextOf (.warnMark 1) (engaged 29999 true true)).map fun t =>
        ((t.station 1).warn, t.hasFlag .stationWarn)) = some (true, true) ∧
      ((nextOf (.limitMark 1) (engaged 59999 true true)).map fun t =>
        ((t.station 1).limit, (t.station 1).budget, t.hasFault .overrun)) =
        some (true, 60000, true) := by decide

/-- An index in flight, a rise of the at-rest input waiting: the step completes it, and every standing law holds before it. -/
def completing : State := (moving .producing).withPending [.atRestRise]

theorem test_completing_steps : (nextOf .atRestRise (moving .producing)).isSome = true := by decide

theorem test_completing_gateLaw : GateLaw completing where
  permit := by decide
  timer := by decide
  timerDue := by decide
  motion := by decide
  inFlight := by decide
  stopping := by decide
  frozen := by decide
  enables := by decide
  alignTimer := by decide

theorem test_completing_configLaw : ConfigLaw completing where
  stationCount := by decide
  returnCap := by decide
  variantCount := by decide
  filterMs := by decide
  indexSlow := by decide
  indexLimit := by decide
  failRestrict := by decide
  failHalt := by decide
  recoverCycles := by decide
  alignAttempts := by decide
  alignWindow := by decide
  ungaugedLimit := by decide
  maxStep := by decide
  offsetLimit := by decide
  marks := by decide
  codes := by decide
  ratios := by decide
  ruleWords := by decide
  rulesApart := by decide

theorem test_completing_accountLaw : AccountLaw completing where
  once := by decide
  placedInService := by decide
  queueRoom := by decide
  queueInService := by decide
  beyond := by decide
  variants := by decide
  offsets := by decide
  room := by decide

theorem test_completing_countLaw : CountLaw completing where
  failed := by decide
  clean := by decide
  setup := by decide
  attempts := by decide
  timer := by decide

theorem test_completing_engagementLaw : EngagementLaw completing where
  free := by decide
  noStart := fun _ _ _ h => by cases h

end Sys2Proof.Tests
end

section
/-! SUPPORT. Facts the statements on stations, admission, engagement and budgets share: a station written back, the entry to a line state, one-check gate commands, writes refused as they arrive, and the station command windows. -/

namespace Sys2Proof.Machine.Stations

variable (s : State)

/-! ### A station written back -/

/-- A station's state written back unchanged leaves the part as it is. -/
@[simp] theorem setStation_self (k : StationNo) : s.setStation k (s.station k) = s := by
  simp [State.setStation, State.station]

/-- Of two writes of one station's state the last stands. -/
@[simp] theorem setStation_setStation (k : StationNo) (st st' : Station) :
    (s.setStation k st).setStation k st' = s.setStation k st' := by
  simp [State.setStation]

/-- A flag raised where its event has occurred, and a station written, in either order. -/
theorem raiseIf_setStation (c : Bool) (f : Flag) (k : StationNo) (st : Station) :
    (s.raiseIf c f).setStation k st = (s.setStation k st).raiseIf c f := by
  cases c <;> rfl

/-- A fault added where its event has occurred, and a station written, in either order. -/
theorem addFaultIf_setStation (c : Bool) (f : CycleFault) (k : StationNo) (st : Station) :
    (s.addFaultIf c f).setStation k st = (s.setStation k st).addFaultIf c f := by
  cases c <;> rfl

@[simp] theorem station_raiseIf (c : Bool) (f : Flag) (k : StationNo) :
    (s.raiseIf c f).station k = s.station k := by
  simp only [State.station, State.raiseIf_monitor]

@[simp] theorem station_addFaultIf (c : Bool) (f : CycleFault) (k : StationNo) :
    (s.addFaultIf c f).station k = s.station k := by
  simp only [State.station, State.addFaultIf_monitor]

/-! ### Line states -/

theorem lineIn_iff (states : List LineState) :
    s.lineIn states = true ↔ s.line.state ∈ states := by
  simp [State.lineIn]

theorem not_indexing_eq : (!s.indexing) = decide (s.gate.state = .idle) := by
  simp only [State.indexing]
  cases s.gate.state <;> rfl

/-- The line states that permit the enables are all but SETUP and TRIPPED (R81). -/
theorem permitsEnables_eq (l : LineState) :
    l.permitsEnables = decide (l ≠ .setup ∧ l ≠ .tripped) := by
  cases l <;> rfl

/-- The line states whose entry ends STOP_PENDING are STOPPED, TRIPPED and SETUP (R91, R99). -/
theorem endsStop_iff (l : LineState) :
    l.endsStop = true ↔ l = .stopped ∨ l = .tripped ∨ l = .setup := by
  cases l <;> decide

/-- Settles O5: block by block, the stations by R81's two conditions. -/
theorem lineEntered : Obligations.LineEntered := by
  intro s l
  apply State.ext_parts
  case line =>
    rw [State.line_enterLine]
    by_cases h : l = .stopped ∨ l = .tripped ∨ l = .setup
    · simp [h, (endsStop_iff l).mpr h]
    · simp [h, mt (endsStop_iff l).mp h]
  case station =>
    intro k
    rw [State.station_enterLine, permitsEnables_eq, not_indexing_eq]
    simp [State.station, Bool.and_assoc]
  case flagUnit =>
    rw [State.flagUnit_enterLine]
    by_cases h : s.line.state = l
    · simp [h, State.raiseIf]
    · simp [h, State.raiseIf]
  case held => exact State.held_enterLine s l
  all_goals simp [State.entry, State.pallet]

/-- OPEN_SETUP taken outside SETUP: what R78 and R87 clear, and the entry to SETUP. -/
theorem enterSetup_eq (h : s.line.state ≠ .setup) :
    s.enterSetup =
      { s with
        line := { s.line with state := .setup, stopPending := false, failed := 0, clean := 0 }
        monitor :=
          { held := false
            stations := Vector.ofFn fun k =>
              { s.station k with
                engagement := none, budget := 0, budgetDue := false, warn := false,
                noAck := false, limit := false, enable := false } }
        flagUnit := (s.raise .stateChange).flagUnit } := by
  rw [State.enterSetup, lineEntered]
  simp [h, State.station, State.mapStations, State.raise]

/-! ### Gate commands -/

/-- A gate command that asks for a line state alone is taken in those it names (R174). -/
theorem completes_lineCommand (c : GateCommand) (states : List LineState) (d : Word)
    (hfree : s.portsFree) (hc : s.commandChecks c = [(s.lineIn states, .notInState)])
    (hl : s.line.state ∈ states) :
    Completes c.instr d s (State.commandEffect c (s.answered .ok)) :=
  completes_gate s c d hfree (by simp [hc, firstFailure, (lineIn_iff s states).mpr hl])

/-- A gate command that asks for a line state alone is refused NOT_IN_STATE in the others (R174). -/
theorem refuses_lineCommand (c : GateCommand) (states : List LineState) (hfree : s.portsFree)
    (hc : s.commandChecks c = [(s.lineIn states, .notInState)]) (hl : s.line.state ∉ states)
    (hp : s.commandPlace c .notInState = .none) :
    exec c.instr s = .next (s.refusedWrite commandWord .notInState .none) := by
  have hf : firstFailure (s.commandChecks c) = some .notInState := by
    simp [hc, firstFailure, mt (lineIn_iff s states).mp hl]
  rw [refuses_gate s c .notInState hfree.1 hf (by decide), hp]
  rfl

/-- Settles O7: R86's one check, then the entry to SETUP. -/
theorem openSetup : Obligations.OpenSetup := by
  intro s d hfree
  split
  case isTrue h =>
    have hne : s.line.state ≠ .setup := by rcases h with h | h | h <;> simp [h]
    have taken := completes_lineCommand s .openSetup [.prepared, .stopped, .tripped] d hfree rfl
      (by simpa using h)
    exact enterSetup_eq (s.answered .ok) hne ▸ taken
  case isFalse h =>
    exact refuses_lineCommand s .openSetup [.prepared, .stopped, .tripped] hfree rfl
      (by simpa using h) rfl

/-- The checks of RELEASE_STATION in order: the line state, the station, and its engagement with the limit indication (R74). -/
theorem firstFailure_releaseStation (k : Fin 32) :
    firstFailure (s.commandChecks (.releaseStation k)) =
      if s.line.state ∉ [.aligning, .producing, .restricted, .stopped] then some .notInState
      else if h : k.val < s.stationCount ∧ k.val < 28 then
        if (s.station ⟨k.val, h.2⟩).engagement ≠ none ∧ (s.station ⟨k.val, h.2⟩).limit = true then
          none
        else some .stationState
      else some .badArgument := by
  by_cases hl : s.line.state ∈ [LineState.aligning, .producing, .restricted, .stopped]
  · rw [if_neg (not_not_intro hl)]
    by_cases hk : k.val < s.stationCount ∧ k.val < 28
    · simp [State.commandChecks, firstFailure, (lineIn_iff s _).mpr hl, lineStation_eq_some s k hk,
        hk, Option.isSome_iff_ne_none]
    · simp [State.commandChecks, firstFailure, (lineIn_iff s _).mpr hl, lineStation_eq_none s k hk,
        hk]
  · rw [if_pos hl]
    simp [State.commandChecks, firstFailure, mt (lineIn_iff s _).mp hl]

/-- A refused RELEASE_STATION reports the position its argument names and that position's pallet (R74; log 16). -/
theorem releasePlace_eq (k : Fin 32) (cause : Cause) :
    s.commandPlace (.releaseStation k) cause =
      if h : k.val < 28 then ⟨some k, (s.entry ⟨k.val, h⟩).pallet⟩ else .none := by
  by_cases h : k.val < 28 <;>
    simp [State.commandPlace, positionOf, h, State.placeAt, StationNo.wide]

/-- Settles O12: HOLD and RESUME ask for a line state alone; RELEASE_STATION by its three checks. -/
theorem holdResumeAndRelease : Obligations.HoldResumeAndRelease := by
  refine ⟨fun s d hfree => ⟨?_, ?_⟩, fun s k d hfree => ?_⟩
  · split
    case isTrue h =>
      exact completes_lineCommand s .hold [.producing, .restricted, .stopped] d hfree rfl
        (by simpa using h)
    case isFalse h =>
      exact refuses_lineCommand s .hold [.producing, .restricted, .stopped] hfree rfl
        (by simpa using h) rfl
  · split
    case isTrue h =>
      exact completes_lineCommand s .resume [.aligning, .producing, .restricted, .stopped] d hfree
        rfl (by simpa using h)
    case isFalse h =>
      exact refuses_lineCommand s .resume [.aligning, .producing, .restricted, .stopped] hfree rfl
        (by simpa using h) rfl
  · have refused (cause : Cause) (hp : cause ≠ .patchOverflow)
        (hc : firstFailure (s.commandChecks (.releaseStation k)) = some cause) :
        exec (.releaseStation k) s =
          .next
            (s.refusedWrite commandWord cause
              (if h : k.val < 28 then ⟨some k, (s.entry ⟨k.val, h⟩).pallet⟩ else .none)) :=
      releasePlace_eq s k cause ▸ refuses_gate s (.releaseStation k) cause hfree.1 hc hp
    have hchecks := firstFailure_releaseStation s k
    intro _
    split
    case isTrue hl => exact refused _ (by decide) (by rw [hchecks, if_pos (by simpa using hl)])
    case isFalse hl =>
      rw [if_neg fun hn => hl (by simpa using hn)] at hchecks
      split
      case isTrue hk =>
        rw [dif_pos hk] at hchecks
        intro j
        split
        case isTrue he =>
          have taken := completes_gate s (.releaseStation k) d hfree (by rw [hchecks, if_pos he])
          simp only [State.commandEffect] at taken
          rw [lineStation_eq_some (s.answered .ok) k hk] at taken
          exact taken
        case isFalse he => exact refused _ (by decide) (by rw [hchecks, if_neg he])
      case isFalse hk => exact refused _ (by decide) (by rw [hchecks, dif_neg hk])

end Sys2Proof.Machine.Stations
end

section
/-! SUPPORT. Writes and reads of the station command windows: what the part decides of each as it arrives (R57, R58, R59, R148, R159). -/

namespace Sys2Proof.Machine.Stations

variable (s : State)

/-! ### Accesses refused as they arrive -/

/-- A host write that the part decides to refuse is answered with that report (R159). -/
theorem write_refused (i : Instr) (o : Offset) (size : Size) (data : Word) (cause : Cause)
    (place : Place) (hx : exec i s = s.hostWrite o size data)
    (hrec : s.classifier.record = none)
    (hd : s.decide ⟨.write, o, size, data &&& size.mask⟩ = .refuse cause place)
    (hp : cause ≠ .patchOverflow) : exec i s = .next (s.refusedWrite o cause place) := by
  rw [hx, State.hostWrite, arrive_refuse s _ cause place hrec hd, refuseArrival_eq _ _ _ _ _ hp]
  rfl

/-- A host read that the part decides to refuse is answered with that report (R159). -/
theorem read_refused (i : Instr) (o : Offset) (size : Size) (cause : Cause) (place : Place)
    (hx : exec i s = s.hostReadAt o size) (hrec : s.classifier.record = none)
    (hd : s.decide ⟨.read, o, size, 0⟩ = .refuse cause place) (hp : cause ≠ .patchOverflow) :
    exec i s = .next (s.refusedRead o cause place) := by
  rw [hx, State.hostReadAt, arrive_refuse s _ cause place hrec hd, refuseArrival_eq _ _ _ _ _ hp]
  rfl

/-- An access that does not begin at a multiple of its size is refused before all else (R159). -/
theorem decide_misaligned (q : Request) (h : q.offset.toNat % q.size.bytes ≠ 0) :
    s.decide q = .refuse .misaligned .none := by
  simp [State.decide, h]

/-! ### Station command windows -/

variable (k : StationNo) (n : Fin 64) (lane : Fin 4) (size : Size) (w : Word)

/-- Every word begins at a multiple of every size, so the byte lane alone decides alignment. -/
theorem commandOffset_mod_bytes :
    (commandOffset k n.val lane.val).toNat % size.bytes = lane.val % size.bytes := by
  rw [toNat_commandOffset k n.val lane.val n.isLt lane.isLt]
  cases size <;> simp only [Size.bytes] <;> omega

theorem commandOffset_word : (commandOffset k n.val lane.val).toNat % 256 / 4 = n.val := by
  rw [toNat_commandOffset k n.val lane.val n.isLt lane.isLt]
  omega

/-- A write of a station command window: NO_STATION beyond the line, else a cycle start or a command word (R57, R159). -/
theorem decide_commandWrite (ha : lane.val % size.bytes = 0) :
    s.decide ⟨.write, commandOffset k n.val lane.val, size, w⟩ =
      if s.inLine k then
        if n.val = 0 then s.decideCycleStart ⟨.write, commandOffset k n.val lane.val, size, w⟩ k
        else s.decideCommandWord ⟨.write, commandOffset k n.val lane.val, size, w⟩ k
      else .refuse .noStation .none := by
  simp [State.decide, commandOffset_mod_bytes, ha, State.decideWrite,
    windowOf_commandOffset k n.val lane.val n.isLt lane.isLt, State.decideCommandWrite,
    commandOffset_word]

/-- A read of a station command window is passed, beyond the line refused NO_STATION (R57, R159). -/
theorem decide_commandRead (ha : lane.val % size.bytes = 0) :
    s.decide ⟨.read, commandOffset k n.val lane.val, size, w⟩ =
      if s.inLine k then .forward .pass (commandOffset k n.val lane.val) w
      else .refuse .noStation .none := by
  simp [State.decide, commandOffset_mod_bytes, ha, State.decideRead,
    windowOf_commandOffset k n.val lane.val n.isLt lane.isLt, Request.forwardAs]

/-- A cycle-start word with a code other than NONE and START, or a reserved bit, is none (R58, 2 and 3). -/
theorem readCycleStart_eq_none (h : w &&& ~~~0x101 ≠ 0) : readCycleStart w = none := by
  unfold readCycleStart
  split
  case isFalse => rfl
  case isTrue hbits =>
    simp only [Bool.and_eq_true, decide_eq_true_eq] at hbits
    simp only [bits] at hbits
    have hw := w.isLt
    have hvalue : w.toNat = 0 ∨ w.toNat = 1 ∨ w.toNat = 0x100 ∨ w.toNat = 0x101 := by omega
    have hword : w = 0 ∨ w = 1 ∨ w = 0x100 ∨ w = 0x101 :=
      hvalue.imp BitVec.eq_of_toNat_eq
        (Or.imp BitVec.eq_of_toNat_eq (Or.imp BitVec.eq_of_toNat_eq BitVec.eq_of_toNat_eq))
    rcases hword with rfl | rfl | rfl | rfl <;> exact absurd (by decide) h

/-- CASTING is bit 8 of a cycle-start word (11). -/
theorem casting_of_readCycleStart (request casting : Bool)
    (h : readCycleStart w = some (request, casting)) : casting = w.getLsbD 8 := by
  unfold readCycleStart at h
  split at h
  case isFalse => cases h
  case isTrue =>
    obtain ⟨-, rfl⟩ : _ ∧ decide (bits w 8 1 = 1) = casting := by simpa using h
    simp [BitVec.getLsbD, Nat.testBit_eq_decide_div_mod_eq, bits]

/-- A cycle-start write that is short, has another code or a reserved bit, or has CASTING away from the load station is refused MALFORMED (R58). -/
theorem decideCycleStart_malformed (q : Request)
    (h : q.size ≠ .four ∨ q.data &&& ~~~0x101 ≠ 0 ∨ (q.data.getLsbD 8 = true ∧ k ≠ 0)) :
    s.decideCycleStart q k = .refuse .malformed (s.placeAt k) := by
  unfold State.decideCycleStart
  by_cases hz : q.size = .four
  · cases hr : readCycleStart q.data with
    | none => simp
    | some word =>
      obtain ⟨request, casting⟩ := word
      have hspare : q.data &&& ~~~0x101 = 0 :=
        Classical.byContradiction fun hne => by
          rw [readCycleStart_eq_none q.data hne] at hr
          cases hr
      obtain ⟨hc, hk⟩ : q.data.getLsbD 8 = true ∧ k ≠ 0 :=
        (h.resolve_left (not_not_intro hz)).resolve_left (not_not_intro hspare)
      have hk' : k.val ≠ 0 := fun h0 => hk (Fin.ext h0)
      simp [casting_of_readCycleStart q.data request casting hr, hc, hk', hz]
  · simp [hz]

/-- What the part decides of a cycle start of a station of the line: MALFORMED for CASTING away from the load station, else R59's checks in order (R58, R59). -/
theorem decideCycleStart_codeWord (o : Offset) (casting : Bool) :
    s.decideCycleStart ⟨.write, o, .four, codeWord true casting⟩ k =
      if casting = true ∧ k ≠ 0 then .refuse .malformed (s.placeAt k)
      else .after (s.startChecks k) (fun _ => s.placeAt k)
        (.forward (.cycleStart k casting) o (codeWord true casting)) := by
  simp [State.decideCycleStart, readCycleStart_codeWord, Request.forwardAs]

/-- A write of a word that no enabled rule names is passed, but during an index (R57, R148). -/
theorem decideCommandWord_unnamed (q : Request) (hq : q.offset.toNat % 256 / 4 = n.val)
    (h : ∀ j, (s.rule j).names k n.val = false) :
    s.decideCommandWord q k =
      if s.gate.state = .indexing then .refuse .indexInFlight (s.placeAt k)
      else .forward .pass q.offset q.data := by
  have hnone : s.ruleFor k n.val = none := by
    rw [State.ruleFor, List.find?_eq_none]
    intro r hr
    obtain ⟨j, hj, rfl⟩ := List.mem_iff_getElem.mp hr
    simpa [State.rule] using h ⟨j, by simpa using hj⟩
  rw [State.decideCommandWord, hq, hnone]
  by_cases hi : s.gate.state = .indexing <;>
    simp [Decision.after, firstFailure, State.indexing, hi, Request.forwardAs]

/-- Settles O38: alignment and the line first, then reads, cycle starts and command words. -/
theorem commandWordPassed : Obligations.CommandWordPassed := by
  intro s k n lane size data d hfree i o read w place
  have hwrite (cause : Cause) (place : Place) (hp : cause ≠ .patchOverflow)
      (hd : s.decide ⟨.write, o, size, w⟩ = .refuse cause place) :
      exec i s = .next (s.refusedWrite o cause place) :=
    write_refused s i o size data cause place rfl hfree.1 hd hp
  have hx : exec read s = s.hostReadAt o size := hostReadAddress_addressOf s o size
  have hread (cause : Cause) (place : Place) (hp : cause ≠ .patchOverflow)
      (hd : s.decide ⟨.read, o, size, 0⟩ = .refuse cause place) :
      exec read s = .next (s.refusedRead o cause place) :=
    read_refused s read o size cause place hx hfree.1 hd hp
  split
  case isTrue ha =>
    have hmis : o.toNat % size.bytes ≠ 0 := commandOffset_mod_bytes k n lane size ▸ ha
    exact ⟨hwrite _ _ (by decide) (decide_misaligned s _ hmis),
      hread _ _ (by decide) (decide_misaligned s _ hmis)⟩
  case isFalse ha =>
    have ha : lane.val % size.bytes = 0 := Decidable.not_not.mp ha
    have hdw := decide_commandWrite s k n lane size w ha
    have hdr := decide_commandRead s k n lane size 0 ha
    split
    case isTrue hk =>
      rw [hk] at hdw hdr
      exact ⟨hwrite _ _ (by decide) hdw, hread _ _ (by decide) hdr⟩
    case isFalse hk =>
      rw [if_pos (by simpa using hk)] at hdw hdr
      refine ⟨carriedOut_read s read ⟨.read, o, size, 0⟩ .pass o d hx hfree rfl (.inl rfl) hdr,
        fun hn hbad => ?_, fun hn hnames => ?_⟩
      · rw [if_pos (by simp [hn])] at hdw
        exact hwrite _ _ (by decide) (hdw.trans (decideCycleStart_malformed s k _ hbad))
      · rw [if_neg (fun h : n.val = 0 => hn (Fin.ext h)),
          decideCommandWord_unnamed s k n _ (commandOffset_word k n lane) hnames] at hdw
        split
        case isTrue hi =>
          rw [if_pos hi] at hdw
          exact hwrite _ _ (by decide) hdw
        case isFalse hi =>
          rw [if_neg hi] at hdw
          exact carriedOut_pass s i ⟨.write, o, size, w⟩ d rfl hfree rfl hdw

/-! ### The cycle start -/

/-- One check of a rule's order, read as a choice: what its cause brings where it fails, else what the rest brings. -/
theorem ite_of_firstFailure {answer : Option Cause → Prop} {failed refused next : Prop}
    [Decidable failed] {passes : Bool} {cause : Cause} {rest : List (Bool × Cause)}
    (h : answer (firstFailure ((passes, cause) :: rest))) (hp : passes = true ↔ ¬failed)
    (hrefused : answer (some cause) → refused) (hnext : answer (firstFailure rest) → next) :
    if failed then refused else next := by
  by_cases hf : failed
  · rw [if_pos hf]
    exact hrefused (by simpa [firstFailure, hp, hf] using h)
  · rw [if_neg hf]
    exact hnext (by simpa [firstFailure, hp, hf] using h)

/-- The answer to a cycle start of a station of the line: its refusal, or its engagement (R59, R61). -/
def StartAnswer (s : State) (k : StationNo) (casting : Bool) (d : Word) : Option Cause → Prop
  | some cause =>
    exec (.start k casting) s =
      .next (s.refusedWrite (commandOffset k 0 0) cause (s.placeAt k))
  | none => Completes (.start k casting) d s ((s.answered .ok).engage k casting)

theorem presents_start (casting : Bool) :
    s.presents (.start k casting) =
      some (s.onBus ⟨.write, commandOffset k 0 0, .four, codeWord true casting⟩) := by
  cases casting <;> rfl

theorem exec_start (casting : Bool) :
    exec (.start k casting) s =
      s.ifPortFree (s.arrive ⟨.write, commandOffset k 0 0, .four, codeWord true casting⟩) := by
  show s.hostWrite _ _ _ = _
  rw [State.hostWrite, four_mask]

/-- No check of a cycle start refuses with PATCH_OVERFLOW, which alone has an effect beyond its report. -/
theorem startChecks_cause (cause : Cause) (h : firstFailure (s.startChecks k) = some cause) :
    cause ≠ .patchOverflow := by
  rintro rfl
  simp only [State.startChecks, firstFailure] at h
  repeat' split at h
  all_goals cases h

/-- A cycle start past the form of its word is answered by R59's checks (R59, R61, R62). -/
theorem start_answer (casting : Bool) (d : Word) (hfree : s.portsFree) (hk : s.inLine k = true)
    (hc : ¬(casting = true ∧ k ≠ 0)) :
    StartAnswer s k casting d (firstFailure (s.startChecks k)) := by
  have hd := decide_commandWrite s k 0 0 .four (codeWord true casting) rfl
  rw [if_pos hk, if_pos (show (0 : Fin 64).val = 0 from rfl), decideCycleStart_codeWord,
    if_neg hc, Decision.after] at hd
  cases hf : firstFailure (s.startChecks k) with
  | some cause =>
    rw [hf] at hd
    exact write_refused s _ _ .four (codeWord true casting) cause _ rfl hfree.1
      (by rw [four_mask]; exact hd) (startChecks_cause s k cause hf)
  | none =>
    rw [hf] at hd
    exact completes_cycleStart s _ _ k casting d (presents_start s k casting)
      (exec_start s k casting) hfree rfl hd

/-- Settles O24: the line and the form of the word, then R59's checks one after the other. -/
theorem startRequest : Obligations.StartRequest := by
  intro s k casting d hfree o refused
  have hd := decide_commandWrite s k 0 0 .four (codeWord true casting) rfl
  have early (cause : Cause) (place : Place) (hp : cause ≠ .patchOverflow)
      (hd : s.decide ⟨.write, o, .four, codeWord true casting⟩ = .refuse cause place) :
      exec (.start k casting) s = .next (s.refusedWrite o cause place) :=
    write_refused s _ o .four (codeWord true casting) cause place rfl hfree.1
      (by rw [four_mask]; exact hd) hp
  by_cases hk : s.inLine k = false
  · rw [if_pos hk]
    rw [if_neg (by simp [hk])] at hd
    exact early _ _ (by decide) hd
  · rw [if_neg hk]
    have hk : s.inLine k = true := by simpa using hk
    rw [if_pos hk, if_pos (show (0 : Fin 64).val = 0 from rfl), decideCycleStart_codeWord] at hd
    by_cases hc : casting = true ∧ k ≠ 0
    · rw [if_pos hc] at hd ⊢
      exact early _ _ (by decide) hd
    · rw [if_neg hc]
      refine ite_of_firstFailure (start_answer s k casting d hfree hk hc) ?_ id fun h => ?_
      · simp [State.lineIn, Decidable.or_iff_not_imp_left]
      refine ite_of_firstFailure h (by simp) id fun h => ?_
      refine ite_of_firstFailure h (by simp [State.indexing]) id fun h => ?_
      refine ite_of_firstFailure h (by simp) id fun h => ?_
      refine ite_of_firstFailure h (by simp) id fun h => ?_
      refine ite_of_firstFailure h (by simp [MapEntry.occupied, Option.isSome_iff_ne_none]) id
        fun h => ?_
      refine ite_of_firstFailure h (by simp) id fun h => ?_
      intro p hp admits
      have hsuits : s.blockSuits k = admits := by
        simp only [State.blockSuits, hp, admits]
        cases (s.descriptor k).role <;> cases (s.pallet p).block <;> rfl
      refine ite_of_firstFailure h (by simp [hsuits]) id fun h => ?_
      exact ite_of_firstFailure h (by simp [State.variantOperates, hp, Decidable.imp_iff_not_or]) id id

end Sys2Proof.Machine.Stations
end

section
/-! SUPPORT. Forwarding and what ends a transaction without the memory's OK: ERROR, and the response limit (R61, R62, R153, R162 to R164). -/

namespace Sys2Proof.Machine.Stations

variable (s : State)

/-- Nothing is forwarded while a response is owed, nor without a transaction that stands ARRIVED (R162; log 6). -/
theorem forward_of_not
    (h : s.classifier.stale = true ∨ s.classifier.record = none ∨
      ∃ t, s.classifier.record = some t ∧ t.stage = .forwarded) : s.forward = s := by
  unfold State.forward
  rcases h with hs | hr | ⟨t, hr, ht⟩
  · cases s.classifier.record <;> simp [hs]
  · rw [hr]
  · simp [hr, ht]

/-- Settles O42: forwarding by the treatment of the transaction. -/
theorem forwarded : Obligations.Forwarded := by
  intro s
  refine ⟨fun t hr ht hs => ?_, fun h => congrArg Host.Outcome.next (forward_of_not s h)⟩
  refine congrArg Host.Outcome.next ((forward_arrived s t hr ht hs).trans ?_)
  rw [Transaction.forwardEffect]
  cases t.treatment with
  | patch overflowed => cases overflowed <;> rfl
  | _ => rfl

/-! ### Image errors -/

/-- The place that a station number reports: a station of the line with the pallet of its entry, else none (R159). -/
def numberPlace (s : State) (n : Nat) : Place :=
  if h : n < s.stationCount ∧ n < 28 then
    ⟨some ⟨n, by omega⟩, (s.entry ⟨n, h.2⟩).pallet⟩
  else .none

/-- A position reports as its number does. -/
theorem placeAt_if_inLine (n : Nat) (hn : n < 28) :
    (if s.inLine ⟨n, hn⟩ then s.placeAt ⟨n, hn⟩ else .none) = numberPlace s n := by
  by_cases h : n < s.stationCount <;>
    simp [numberPlace, State.inLine, h, hn, State.placeAt, StationNo.wide]

variable (o : Offset)

/-- The places of an image error by the ranges of the line image (R158, R159). -/
theorem portPlace_inside :
    s.portPlace false o =
      if 0x2000 ≤ o.toNat ∧ o.toNat < 0x3C00 then numberPlace s ((o.toNat - 0x2000) / 256)
      else if 0x4000 ≤ o.toNat ∧ o.toNat < 0x5C00 then numberPlace s ((o.toNat - 0x4000) / 256)
      else if 0x5C00 ≤ o.toNat ∧ o.toNat < 0x5D00 then
        numberPlace s s.classifier.selector.toNat
      else .none := rfl

/-- An offset of the station command windows falls in that of its station (R158). -/
theorem windowOf_eq_command (h : 0x2000 ≤ o.toNat ∧ o.toNat < 0x3C00) :
    windowOf o = .command ⟨(o.toNat - 0x2000) / 256, by omega⟩ := by
  simp only [windowOf]
  repeat rw [if_neg (by omega)]
  rw [if_pos h.2]
  exact congrArg Window.command (Fin.ext (by simp only [Fin.val_ofNat]; omega))

/-- An offset of the station views falls in that of its station (R158). -/
theorem windowOf_eq_stationView (h : 0x4000 ≤ o.toNat ∧ o.toNat < 0x5C00) :
    windowOf o = .stationView ⟨(o.toNat - 0x4000) / 256, by omega⟩ := by
  simp only [windowOf]
  repeat rw [if_neg (by omega)]
  rw [if_pos h.2]
  exact congrArg Window.stationView (Fin.ext (by simp only [Fin.val_ofNat]; omega))

/-- An offset of the roving view falls in it (R158). -/
theorem windowOf_eq_rovingView (h : 0x5C00 ≤ o.toNat ∧ o.toNat < 0x5D00) :
    windowOf o = .rovingView := by
  simp only [windowOf]
  repeat rw [if_neg (by omega)]
  rw [if_pos h.2]

/-- The windows whose image errors report a station (R159). -/
def reportsStation : Window → Bool
  | .command _ | .stationView _ | .rovingView => true
  | .gate _ | .params | .descriptor _ | .variant _ | .rule _ | .palletView | .mapView
  | .captureView | .passed => false

/-- The windows that report a station are the command windows and the views (R158, R159). -/
theorem reportsStation_windowOf :
    reportsStation (windowOf o) = true ↔
      (0x2000 ≤ o.toNat ∧ o.toNat < 0x3C00) ∨ (0x4000 ≤ o.toNat ∧ o.toNat < 0x5D00) := by
  simp only [windowOf]
  simp only [apply_ite reportsStation]
  simp only [reportsStation, Bool.if_false_left, Bool.if_true_left, Bool.and_eq_true,
    Bool.or_eq_true, Bool.not_eq_true', decide_eq_true_eq, decide_eq_false_iff_not,
    Bool.false_eq_true, or_false]
  omega

/-- A window that reports no station reports no place (R159). -/
theorem defaultPlace_eq_none (h : ¬reportsStation (windowOf o) = true) :
    s.defaultPlace o = .none := by
  unfold State.defaultPlace
  cases hw : windowOf o with
  | command k => simp [hw, reportsStation] at h
  | stationView k => simp [hw, reportsStation] at h
  | rovingView => simp [hw, reportsStation] at h
  | _ => rfl

/-- The roving view reports as the view of the station its selector names (R172; log 14). -/
theorem defaultPlace_roving (h : windowOf o = .rovingView) :
    s.defaultPlace o = numberPlace s s.classifier.selector.toNat := by
  rw [State.defaultPlace, h]
  by_cases hn : s.classifier.selector.toNat < 28
  · rw [← placeAt_if_inLine s _ hn]
    simp only [State.selectedStation, State.selectedPosition, dif_pos hn, Option.filter]
    cases s.inLine ⟨s.classifier.selector.toNat, hn⟩ <;> rfl
  · simp [State.selectedStation, State.selectedPosition, numberPlace, hn]

/-- The part reads the place of an image error off the windows of the line image (R159, R190). -/
theorem errorPlace_eq_portPlace (outside : Bool) :
    s.errorPlace outside o = s.portPlace outside o := by
  cases outside with
  | true => rfl
  | false =>
    rw [State.errorPlace, if_neg Bool.false_ne_true, portPlace_inside]
    by_cases hc : 0x2000 ≤ o.toNat ∧ o.toNat < 0x3C00
    · rw [if_pos hc, ← placeAt_if_inLine s _ (by omega), State.defaultPlace,
        windowOf_eq_command o hc]
    rw [if_neg hc]
    by_cases hv : 0x4000 ≤ o.toNat ∧ o.toNat < 0x5C00
    · rw [if_pos hv, ← placeAt_if_inLine s _ (by omega), State.defaultPlace,
        windowOf_eq_stationView o hv]
    rw [if_neg hv]
    by_cases hr : 0x5C00 ≤ o.toNat ∧ o.toNat < 0x5D00
    · rw [if_pos hr]
      exact defaultPlace_roving s o (windowOf_eq_rovingView o hr)
    · rw [if_neg hr]
      exact defaultPlace_eq_none s o (mt (reportsStation_windowOf o).mp (by omega))

/-- The place of an image error hangs on the map, the configuration and the view selector alone. -/
theorem portPlace_congr {s t : State} (hc : t.classifier = s.classifier)
    (ht : t.tracking = s.tracking) (hg : t.config = s.config) (outside : Bool) :
    t.portPlace outside o = s.portPlace outside o := by
  obtain ⟨_, _, _, _, _, _, _, _, _, _, _, _⟩ := s
  obtain ⟨_, _, _, _, _, _, _, _, _, _, _, _⟩ := t
  subst hc ht hg
  rfl

/-- A START's engagement that still stands is withdrawn, with its unit at 0 (R62). -/
theorem withdraw_eq (k : StationNo) :
    s.withdraw k =
      if (s.station k).engagement = none then s
      else
        s.setStation k
          { s.station k with engagement := none, budget := 0, budgetDue := false } := by
  cases h : (s.station k).engagement <;> simp [State.withdraw, h]

variable (t : Transaction)

@[simp] theorem undoForward_classifier : (t.undoForward s).classifier = s.classifier := by
  rw [Transaction.undoForward]
  cases t.treatment with
  | cycleStart k casting => simp only [withdraw_eq]; split <;> rfl
  | _ => rfl

@[simp] theorem undoForward_tracking : (t.undoForward s).tracking = s.tracking := by
  rw [Transaction.undoForward]
  cases t.treatment with
  | cycleStart k casting => simp only [withdraw_eq]; split <;> rfl
  | _ => rfl

@[simp] theorem undoForward_config : (t.undoForward s).config = s.config := by
  rw [Transaction.undoForward]
  cases t.treatment with
  | cycleStart k casting => simp only [withdraw_eq]; split <;> rfl
  | _ => rfl

/-- A flag raised before the withdrawal stands as one raised after it. -/
theorem undoForward_raise (f : Flag) : t.undoForward (s.raise f) = (t.undoForward s).raise f := by
  rw [Transaction.undoForward, Transaction.undoForward]
  cases t.treatment with
  | cycleStart k casting =>
    simp only [withdraw_eq]
    by_cases h : (s.station k).engagement = none
    · rw [if_pos h, if_pos (show ((s.raise f).station k).engagement = none from h)]
    · rw [if_neg h, if_neg (show ¬((s.raise f).station k).engagement = none from h)]
      rfl
  | _ => rfl

/-- An image error with the place read off the windows (R163, R190). -/
theorem imageError_eq (kind : Kind) (outside : Bool) :
    s.imageError kind outside o =
      (s.raise .imageError).refuse kind outside o .imageError (s.portPlace outside o) := by
  rw [State.imageError, errorPlace_eq_portPlace]

/-- The withdrawal of an engagement changes no place that is reported. -/
theorem portPlace_undoForward (outside : Bool) :
    (t.undoForward s).portPlace outside o = s.portPlace outside o :=
  portPlace_congr o (undoForward_classifier s t) (undoForward_tracking s t)
    (undoForward_config s t) outside

theorem portPlace_command (k : StationNo) (hk : s.inLine k = true) :
    s.portPlace false (commandOffset k 0 0) = s.placeAt k := by
  rw [← errorPlace_eq_portPlace, State.errorPlace, if_neg Bool.false_ne_true, State.defaultPlace,
    windowOf_commandOffset k 0 0 (by decide) (by decide)]
  exact if_pos hk

/-- ERROR from the memory to the transaction that waits (R62, R163). -/
theorem responseError_awaits (h : s.awaits t) :
    exec .imageResponseError s =
      .next
        (((t.undoForward s).raise .imageError).refuse t.kind t.outside t.offset .imageError
          (s.portPlace t.outside t.offset)) := by
  refine (onResponse_awaits s t h _).trans (congrArg Host.Outcome.next ?_)
  rw [State.respondError, imageError_eq, portPlace_undoForward]

/-- The transaction that waits is the one a response limit ends (R164). -/
theorem forwarded_awaits (h : s.awaits t) : s.forwarded = some t := by
  obtain ⟨hr, ht, -⟩ := h
  simp [State.forwarded, hr, Option.filter, ht]

/-- Settles O43: the withdrawal, then the image error with its place; at the limit the same with IMAGE_TIMEOUT and the stale indication. -/
theorem responseFailures : Obligations.ResponseFailures := by
  refine ⟨fun s t h => ⟨fun hplain => ?_, fun k casting htr hout ho hk => ?_⟩,
    fun s t h => ⟨fun htimer => ?_, fun hearly => ?_⟩⟩
  · rw [responseError_awaits s t h, Transaction.undoForward]
    cases htr : t.treatment with
    | cycleStart k casting => exact absurd htr (hplain k casting)
    | _ => rfl
  · intro withdrawn
    have ho' : t.offset = commandOffset k 0 0 := ho
    have hw : t.undoForward s = withdrawn := by
      rw [Transaction.undoForward, htr]
      exact withdraw_eq s k
    rw [responseError_awaits s t h, hw, hout, ho', portPlace_command s k hk]
    rfl
  · intro withdrawn ended
    have hw : t.undoForward s = withdrawn := by
      simp only [Transaction.undoForward, withdrawn]
      cases t.treatment with
      | cycleStart k casting => exact withdraw_eq s k
      | _ => rfl
    have hover : s.responseOverdue = true := by
      simp [State.responseOverdue, htimer, Config.responseLimit]
    have hplace : (withdrawn.raise .imageTimeout).portPlace t.outside t.offset =
        s.portPlace t.outside t.offset := hw ▸ portPlace_undoForward s t.offset t t.outside
    have hend :
        (t.undoForward (s.raise .imageTimeout)).imageError t.kind t.outside t.offset = ended := by
      rw [undoForward_raise, hw, imageError_eq, hplace]
    refine congrArg Host.Outcome.next ?_
    simp only [State.timeOut, forwarded_awaits s t h, hover, if_true, hend]
  · have hover : s.responseOverdue = false := by
      simp [State.responseOverdue, Config.responseLimit, Nat.ne_of_lt hearly]
    refine congrArg Host.Outcome.next ?_
    simp only [State.timeOut, forwarded_awaits s t h, hover]
    exact if_neg Bool.false_ne_true

end Sys2Proof.Machine.Stations
end

section
/-! SUPPORT. The input filters and the marks of a budget unit (R64 to R66, R79). -/

namespace Sys2Proof.Machine.Stations

variable (s : State) (k : StationNo)

/-! ### The input filters -/

/-- What a new level makes of an input line, by the effective value and FILTER_MS (R79). -/
theorem change_of_ne (filterMs : Nat) (level : Bool) (l : InputLine) (h : level ≠ l.level) :
    l.change filterMs level =
      { level := level
        filtered := if filterMs = 0 then level else l.filtered
        filter := if level = l.filtered ∨ filterMs = 0 then .idle else .pending level 0 false } := by
  rw [InputLine.change, if_neg h]
  by_cases hf : level = l.filtered
  · simp [← hf]
  · by_cases hz : filterMs = 0 <;> simp [hf, hz]

/-- A level already there leaves the input line as it is (log 9). -/
theorem change_level (filterMs : Nat) (l : InputLine) : l.change filterMs l.level = l :=
  if_pos rfl

/-- An input line without a boundary that is due does not settle (R79). -/
theorem settle_of_not_due (l : InputLine) (h : l.filter.isDue = false) : l.settle = l := by
  rw [InputLine.settle]
  cases hf : l.filter with
  | idle => rfl
  | pending level held due =>
    obtain rfl : due = false := by simpa [hf, FilterState.isDue] using h
    rfl

/-- From a clear line whose effective value stays, nothing follows (R79). -/
theorem updateClear_of_filtered (f : InputLine → InputLine)
    (h : (f (s.station k).clear).filtered = (s.station k).clear.filtered) :
    s.updateClear k f =
      s.setStation k { s.station k with clear := f (s.station k).clear } :=
  if_pos h.symm

/-- A clear line left as it is leaves the part as it is. -/
theorem updateClear_of_eq (f : InputLine → InputLine)
    (h : f (s.station k).clear = (s.station k).clear) :
    s.updateClear k f = s := by
  rw [updateClear_of_filtered s k f (congrArg InputLine.filtered h), h]
  exact setStation_self s k

/-- A presence line left as it is leaves the part as it is. -/
theorem updatePresence_of_eq (f : InputLine → InputLine)
    (h : f (s.station k).presence = (s.station k).presence) : s.updatePresence k f = s := by
  rw [State.updatePresence, h]
  exact setStation_self s k

/-- Settles O50: a change and a settling of each input line, from which nothing follows while effective clear stays. -/
theorem filters : Obligations.Filters := by
  intro s k level moved presence clear
  have hmoved (l : InputLine) (h : level ≠ l.level) :
      l.change s.config.params.filterMs level = moved l := change_of_ne _ level l h
  refine ⟨congrArg Host.Outcome.next ?_, congrArg Host.Outcome.next ?_,
    fun h => congrArg Host.Outcome.next ?_, fun h hkeep => congrArg Host.Outcome.next ?_,
    fun h => congrArg Host.Outcome.next ?_⟩
  · by_cases h : level = presence.level
    · rw [if_pos h]
      exact updatePresence_of_eq s k _ (h ▸ change_level _ _)
    · rw [if_neg h, State.updatePresence, hmoved _ h]
  · cases hf : presence.filter with
    | idle => exact updatePresence_of_eq s k _ (settle_of_not_due _ (by rw [hf]; rfl))
    | pending v held due =>
      cases due with
      | false => exact updatePresence_of_eq s k _ (settle_of_not_due _ (by rw [hf]; rfl))
      | true =>
        have hs : (s.station k).presence.settle = ⟨presence.level, v, .idle⟩ := by
          rw [InputLine.settle, hf]
        rw [State.settleInput, State.updatePresence, hs]
  · exact updateClear_of_eq s k _ (h ▸ change_level _ _)
  · have hc := hmoved clear h
    have hstay : (moved clear).filtered = clear.filtered := by
      rcases hkeep with he | hz
      · simp [moved, ← he]
      · simp [moved, hz]
    rw [updateClear_of_filtered s k _ (hc ▸ hstay), hc]
  · exact updateClear_of_eq s k _ (settle_of_not_due clear h)

/-! ### The marks of a budget unit -/

variable (st : Station) (warned limited : Bool)

/-- Station k with a new state, and the flags and cycle faults of the marks its unit has reached (R65, R66). -/
def marked (s : State) (k : StationNo) (st : Station) (warned limited missed : Bool) : State :=
  (((((s.setStation k st).raiseIf warned .stationWarn).raiseIf limited .overrun).raiseIf missed
    .noAck).addFaultIf limited .overrun).addFaultIf missed .noAck

@[simp] theorem station_marked (missed : Bool) :
    (marked s k st warned limited missed).station k = st := by
  simp [marked]

@[simp] theorem setStation_marked (missed : Bool) (st' : Station) :
    (marked s k st warned limited missed).setStation k st' =
      marked s k st' warned limited missed := by
  simp only [marked, addFaultIf_setStation, raiseIf_setStation, setStation_setStation]

/-- WARN reached, where the count is its mark (R66). -/
theorem reachWarn_marked {c : Prop} [Decidable c] {b : Bool} (hb : b = true ↔ c) :
    (if c then (marked s k st false false false).reachWarn k
      else marked s k st false false false) =
      marked s k { st with warn := st.warn || b } b false false := by
  by_cases hc : c
  · rw [if_pos hc, hb.mpr hc, Bool.or_true, State.reachWarn, station_marked, setStation_marked]
    rfl
  · rw [if_neg hc, Bool.eq_false_iff.mpr (mt hb.mp hc), Bool.or_false]

/-- LIMIT reached, where the count is its mark (R66). -/
theorem reachLimit_marked {c : Prop} [Decidable c] {b : Bool} (hb : b = true ↔ c) :
    (if c then (marked s k st warned false false).reachLimit k
      else marked s k st warned false false) =
      marked s k { st with limit := st.limit || b } warned b false := by
  by_cases hc : c
  · rw [if_pos hc, hb.mpr hc, Bool.or_true, State.reachLimit, station_marked, setStation_marked]
    cases warned <;> rfl
  · rw [if_neg hc, Bool.eq_false_iff.mpr (mt hb.mp hc), Bool.or_false]

/-- ACK reached, where the count is its mark: an engagement not acknowledged ends with NO_ACK (R65). -/
theorem reachAck_marked {c : Prop} [Decidable c] {b : Bool} (hb : b = true ↔ c) (e : Engagement)
    (he : st.engagement = some e) (hdue : st.budgetDue = false) :
    (if c then (marked s k st warned limited false).reachAck k
      else marked s k st warned limited false) =
      marked s k
        { st with
          engagement := if b && !e.acknowledged then none else some e
          noAck := st.noAck || (b && !e.acknowledged) }
        warned limited (b && !e.acknowledged) := by
  by_cases hc : c
  · rw [if_pos hc, hb.mpr hc, Bool.true_and, State.reachAck, station_marked, he]
    cases hack : e.acknowledged with
    | true => simp [hack, ← he]
    | false =>
      have hend : { st.endEngagement with noAck := true } =
          { st with engagement := none, noAck := true } := by
        rw [Station.endEngagement, ← hdue]
      simp only [hack, setStation_marked, hend]
      cases limited <;> simp [marked, State.raiseIf, State.addFaultIf] <;> rfl
  · simp [if_neg hc, Bool.eq_false_iff.mpr (mt hb.mp hc), ← he]

/-- The next boundary reaches a mark where the count is one of the three (R64). -/
theorem unitMarked_iff :
    s.unitMarked k = true ↔
      (s.station k).budget + 1 = (s.descriptor k).ack ∨
        (s.station k).budget + 1 = (s.descriptor k).warn ∨
        (s.station k).budget + 1 = (s.descriptor k).limit := by
  simp [State.unitMarked, State.unitNext]

/-- A boundary due at which a running unit reaches a mark: the count rises, and every mark it reaches applies (R64). -/
theorem takeUnitBoundary_eq (e : Engagement) (he : (s.station k).engagement = some e)
    (hlimit : (s.station k).budget < (s.descriptor k).limit) (hheld : s.monitor.held = false)
    (htrip : s.line.state ≠ .tripped) (hdue : (s.station k).budgetDue = true)
    (hmark : s.unitMarked k = true) :
    s.takeUnitBoundary k =
      let n := (s.station k).budget + 1
      let missed := n == (s.descriptor k).ack && !e.acknowledged
      marked s k
        { s.station k with
          budget := n, budgetDue := false
          engagement := if missed then none else some e
          noAck := (s.station k).noAck || missed
          warn := (s.station k).warn || n == (s.descriptor k).warn
          limit := (s.station k).limit || n == (s.descriptor k).limit }
        (n == (s.descriptor k).warn) (n == (s.descriptor k).limit) missed := by
  have hruns : s.unitRuns k = true := by simp [State.unitRuns, he, hlimit, hheld, htrip]
  have hgo : ((s.station k).budgetDue && s.unitRuns k && s.unitMarked k) = true := by
    simp [hdue, hruns, hmark]
  have hcounted : s.setStation k { s.station k with budget := s.unitNext k, budgetDue := false } =
      marked s k { s.station k with budget := s.unitNext k, budgetDue := false }
        false false false :=
    rfl
  simp only [State.takeUnitBoundary, if_pos hgo, hcounted]
  rw [reachWarn_marked s k _ beq_iff_eq, reachLimit_marked s k _ _ beq_iff_eq,
    reachAck_marked s k _ _ _ beq_iff_eq e]
  · rfl
  · exact he
  · rfl

/-- Settles O54: each mark's step takes the boundary that is due where the count is its mark. -/
theorem budgetMarks : Obligations.BudgetMarks := by
  intro s k st d n
  refine ⟨fun e he hlimit hheld htrip hdue => ?_, fun hdue => ?_⟩
  · have htaken (hmark : n = d.ack ∨ n = d.warn ∨ n = d.limit) :=
      takeUnitBoundary_eq s k e he hlimit hheld htrip hdue ((unitMarked_iff s k).mpr hmark)
    exact ⟨congrArg Host.Outcome.next (ite_congr rfl (fun h => htaken (.inl h)) fun _ => rfl),
      congrArg Host.Outcome.next (ite_congr rfl (fun h => htaken (.inr (.inl h))) fun _ => rfl),
      congrArg Host.Outcome.next (ite_congr rfl (fun h => htaken (.inr (.inr h))) fun _ => rfl)⟩
  · have hstill : s.takeUnitBoundary k = s := takeUnitBoundary_of_not s k (by
      rw [show (s.station k).budgetDue = false from hdue]; rfl)
    have hnothing (c : Prop) [Decidable c] : (if c then s.takeUnitBoundary k else s) = s := by
      rw [hstill, ite_self]
    exact ⟨congrArg Host.Outcome.next (hnothing _), congrArg Host.Outcome.next (hnothing _),
      congrArg Host.Outcome.next (hnothing _)⟩

end Sys2Proof.Machine.Stations
end

section
/-! SUPPORT. The tag word: the station of a reader, the checks a tag meets as it arrives, and what the part does with one it takes (R107, R109 to R113). -/

namespace Sys2Proof.Machine.Tags

variable (s : State) (r : ReaderNo) (k : StationNo) (p x : Fin 64)

/-! ### The station of a reader -/

/-- The lowest station of which a test holds is the first that a search of the stations meets. -/
theorem find?_allStations (test : StationNo → Bool) (h : Lowest k (fun j => test j = true)) :
    allStations.find? test = some k := by
  obtain ⟨hk, hlow⟩ := h
  rw [allStations, List.find?_eq_some_iff_getElem]
  refine ⟨hk, k.val, by simp only [List.length_finRange, k.isLt], ?_, fun j hj => ?_⟩
  · rw [List.getElem_finRange]
    rfl
  · rw [List.getElem_finRange, Bool.not_eq_true', Bool.eq_false_iff]
    exact hlow ⟨j, Nat.lt_trans hj k.isLt⟩ hj

/-- A reader is assigned to the lowest station of the line that names it (R109). -/
theorem readerStation_eq_some
    (h : Lowest k (fun j => s.inLine j = true ∧ (s.descriptor j).reader = some r)) :
    s.readerStation r = some k := by
  rw [State.readerStation, State.lineStations, List.find?_filter]
  refine find?_allStations k _ ?_
  simpa only [decide_eq_true_eq, beq_iff_eq] using h

/-- A reader that no station of the line names is unassigned (R109). -/
theorem readerStation_eq_none
    (h : ∀ k, s.inLine k = true → (s.descriptor k).reader ≠ some r) :
    s.readerStation r = none := by
  rw [State.readerStation, List.find?_eq_none]
  intro j hj
  simpa using h j (List.mem_filter.mp hj).2

/-- The station of a reader is a reader station (R109). -/
theorem isReaderStation_of_lowest
    (h : Lowest k (fun j => s.inLine j = true ∧ (s.descriptor j).reader = some r)) :
    s.isReaderStation k = true := by
  obtain ⟨⟨hin, hreader⟩, -⟩ := h
  simp [State.isReaderStation, hin, hreader]

/-! ### The checks of a tag -/

/-- The checks of a tag in their order: the form of its word, then the line (R110, R111). -/
def arrivalChecks (w : Word) : List (Bool × Cause) := s.tagFormat w ++ s.tagChecks

/-- What the part decides of a tag: its checks in order (R110, R111). -/
theorem decide_tag (w : Word) :
    s.decide ⟨.write, GateWord.tag.offset, .four, w⟩ =
      .after (arrivalChecks s w) (fun _ => s.tagPlace w)
        (.forward .snoop GateWord.tag.offset w) := by
  simp [State.decide, State.decideWrite, windowOf_offset, GateWord.offset_aligned, Size.bytes,
    State.decideGateWrite, State.decideTag, arrivalChecks, Request.forwardAs]

/-- No check of a tag refuses with PATCH_OVERFLOW, which alone has an effect beyond its report. -/
theorem arrivalChecks_cause (w : Word) (cause : Cause)
    (h : firstFailure (arrivalChecks s w) = some cause) : cause ≠ .patchOverflow := by
  rintro rfl
  simp only [arrivalChecks, State.tagFormat, State.tagChecks, List.cons_append, List.nil_append,
    firstFailure] at h
  repeat' split at h
  all_goals cases h

/-- The answer to a tag: its refusal with its place, or its effect at the OK (R111, R112). -/
def TagAnswer (i : Instr) (d : Word) (place : Place) (taken : State) : Option Cause → Prop
  | some cause => exec i s = .next (s.refusedWrite GateWord.tag.offset cause place)
  | none => Completes i d s taken

/-- A write of the tag word is answered by the checks of the tag (R110, R111). -/
theorem tagWrite_answer (i : Instr) (w d : Word)
    (hp : s.presents i = some (s.busWrite GateWord.tag.offset .four w))
    (hx : exec i s = s.hostWrite GateWord.tag.offset .four w) (hfree : s.portsFree) :
    TagAnswer s i d (s.tagPlace w) (State.takeTag (readTag w) (s.answered .ok))
      (firstFailure (arrivalChecks s w)) := by
  have hd := decide_tag s w
  cases hf : firstFailure (arrivalChecks s w) with
  | some cause =>
    exact Stations.write_refused s i _ .four w cause (s.tagPlace w) hx hfree.1
      (by rw [four_mask, hd, Decision.after, hf]) (arrivalChecks_cause s w cause hf)
  | none =>
    have hline : firstFailure (s.answered .ok).tagChecks = none := by
      rw [arrivalChecks, firstFailure_append, Option.or_eq_none_iff] at hf
      exact hf.2
    have h := completes_snoop s i ⟨.write, GateWord.tag.offset, .four, w⟩ d
      (by rw [hp, State.busWrite, four_mask]; rfl) (by rw [hx, State.hostWrite, four_mask]) hfree
      rfl (by rw [hd, Decision.after, hf])
    show Completes i d s _
    simpa [State.snoopAtOk, windowOf_offset, State.gateWordAtOk, State.tagAtOk, State.takeOrDrop,
      hline] using h

/-- The checks of a good tag: the reader, the complement, the line (R110, R111). -/
theorem firstFailure_tagGood :
    firstFailure (arrivalChecks s (tagWord r 0 p x)) =
      firstFailure
        (((s.readerStation r).isSome, .malformed) ::
          (decide (x.val = 63 - p.val), .malformed) :: s.tagChecks) := by
  obtain ⟨hread, hspare⟩ := readTag_tagWord r 0 (by decide) p x
  simp [arrivalChecks, State.tagFormat, hread, hspare, TagWord.goodMatched, firstFailure]

/-- The checks of a tag of quality NO_READ: the reader and the line (R110, R111). -/
theorem firstFailure_tagNoRead :
    firstFailure (arrivalChecks s (tagWord r 1 p x)) =
      firstFailure (((s.readerStation r).isSome, .malformed) :: s.tagChecks) := by
  obtain ⟨hread, hspare⟩ := readTag_tagWord r 1 (by decide) p x
  simp [arrivalChecks, State.tagFormat, hread, hspare, firstFailure]

/-- A refused good tag names the reader's station, and its pallet where the complement matches (R111; log 15). -/
theorem tagPlace_tagGood :
    s.tagPlace (tagWord r 0 p x) =
      ⟨(s.readerStation r).map StationNo.wide, if x.val = 63 - p.val then some p else none⟩ := by
  obtain ⟨hread, hspare⟩ := readTag_tagWord r 0 (by decide) p x
  simp [State.tagPlace, hread, hspare, TagWord.goodMatched]

/-- A refused tag of quality NO_READ names the reader's station and no pallet (R111; log 15). -/
theorem tagPlace_tagNoRead :
    s.tagPlace (tagWord r 1 p x) = ⟨(s.readerStation r).map StationNo.wide, none⟩ := by
  obtain ⟨hread, hspare⟩ := readTag_tagWord r 1 (by decide) p x
  simp [State.tagPlace, hread, hspare, TagWord.goodMatched]

theorem presents_tagGood :
    s.presents (.tagGood r p x) =
      some (s.busWrite GateWord.tag.offset .four (tagWord r 0 p x)) := by
  simp only [State.presents, tagWord, Nat.reducePow, Nat.zero_mul, Nat.add_zero]
  rfl

theorem presents_tagNoRead :
    s.presents (.tagNoRead r p x) =
      some (s.busWrite GateWord.tag.offset .four (tagWord r 1 p x)) := by
  simp only [State.presents, tagWord, Nat.reducePow, Nat.one_mul]
  rfl

/-- A good tag is answered by its reader, its complement and the line (R110, R111). -/
theorem tagGood_answer (d : Word) (hfree : s.portsFree) :
    TagAnswer s (.tagGood r p x) d
      ⟨(s.readerStation r).map StationNo.wide, if x.val = 63 - p.val then some p else none⟩
      (State.takeTag ⟨r, 0, p, x⟩ (s.answered .ok))
      (firstFailure
        (((s.readerStation r).isSome, .malformed) ::
          (decide (x.val = 63 - p.val), .malformed) :: s.tagChecks)) := by
  obtain ⟨hread, -⟩ := readTag_tagWord r 0 (by decide) p x
  rw [← firstFailure_tagGood, ← tagPlace_tagGood, ← hread]
  exact tagWrite_answer s _ _ d (presents_tagGood s r p x) rfl hfree

/-- A tag of quality NO_READ is answered by its reader and the line (R110, R111). -/
theorem tagNoRead_answer (d : Word) (hfree : s.portsFree) :
    TagAnswer s (.tagNoRead r p x) d ⟨(s.readerStation r).map StationNo.wide, none⟩
      (State.takeTag ⟨r, 1, p, x⟩ (s.answered .ok))
      (firstFailure (((s.readerStation r).isSome, .malformed) :: s.tagChecks)) := by
  obtain ⟨hread, -⟩ := readTag_tagWord r 1 (by decide) p x
  rw [← firstFailure_tagNoRead s r p x, ← tagPlace_tagNoRead s r p x, ← hread]
  exact tagWrite_answer s _ _ d (presents_tagNoRead s r p x) rfl hfree

/-- The line checks of a tag, one after the other: no index in flight, then the four line states (R111). -/
theorem ite_of_tagChecks {answer : Option Cause → Prop} {inFlight notInState next : Prop}
    (h : answer (firstFailure s.tagChecks)) (hflight : answer (some .indexInFlight) → inFlight)
    (hstate : answer (some .notInState) → notInState) (hnext : answer none → next) :
    if s.gate.state = .indexing then inFlight
    else if s.line.state ≠ .aligning ∧ s.line.state ≠ .producing ∧
        s.line.state ≠ .restricted ∧ s.line.state ≠ .stopped then notInState
    else next := by
  refine Stations.ite_of_firstFailure h (by simp [State.indexing]) hflight fun h => ?_
  exact Stations.ite_of_firstFailure h
    (by simp [State.lineIn, Decidable.or_iff_not_imp_left]) hstate hnext

/-- A tag passes the line checks while no index is in flight, in the four line states (R111). -/
theorem firstFailure_tagChecks (hidle : s.gate.state = .idle)
    (hline : s.line.state = .aligning ∨ s.line.state = .producing ∨ s.line.state = .restricted ∨
      s.line.state = .stopped) : firstFailure s.tagChecks = none := by
  simp [State.tagChecks, firstFailure, State.indexing, hidle, State.lineIn, hline]

/-! ### Tags taken -/

/-- A good tag of an assigned reader is taken at the reader's station (R114). -/
theorem takeTag_good (h : s.readerStation r = some k) :
    State.takeTag ⟨r, 0, p, x⟩ s = s.takeGood r k p := by
  simp only [State.takeTag, h, if_true]

/-- A tag of quality NO_READ is recorded with the reader's station alone, whatever its fields hold (R112). -/
theorem takeTag_noRead (h : s.readerStation r = some k) :
    State.takeTag ⟨r, 1, p, x⟩ s = s.takeNoRead r k := by
  simp only [State.takeTag, h, Nat.one_ne_zero, if_false]

/-- A good tag of an assigned reader, its complement matching, is taken where the line takes tags (R110, R111, R114). -/
theorem completes_tagGood (d : Word) (hfree : s.portsFree)
    (hk : Lowest k (fun j => s.inLine j = true ∧ (s.descriptor j).reader = some r))
    (hx : x.val = 63 - p.val) (hidle : s.gate.state = .idle)
    (hline : s.line.state = .aligning ∨ s.line.state = .producing ∨ s.line.state = .restricted ∨
      s.line.state = .stopped) :
    Completes (.tagGood r p x) d s ((s.answered .ok).takeGood r k p) := by
  have hreader := readerStation_eq_some s r k hk
  have hpass : firstFailure (((s.readerStation r).isSome, Cause.malformed) ::
      (decide (x.val = 63 - p.val), .malformed) :: s.tagChecks) = none := by
    simp [firstFailure, hreader, hx, firstFailure_tagChecks s hidle hline]
  have h := tagGood_answer s r p x d hfree
  rw [hpass, takeTag_good (s.answered .ok) r k p x hreader] at h
  exact h

/-- Settles O29: the checks of each tag in their order, then the record of a NO_READ. -/
theorem tagNoReadAndRefused : Obligations.TagNoReadAndRefused := by
  intro s r p x d hfree read lineRefuses
  have hgood := tagGood_answer s r p x d hfree
  have hnoRead := tagNoRead_answer s r p x d hfree
  refine ⟨fun hnone => ?_, fun k hk => ?_⟩
  · rw [readerStation_eq_none s r hnone] at hgood hnoRead
    exact ⟨hnoRead, hgood⟩
  · have hreader := readerStation_eq_some s r k hk
    rw [takeTag_noRead (s.answered .ok) r k p x hreader, hreader] at hnoRead
    rw [hreader] at hgood
    refine ⟨ite_of_tagChecks s hnoRead id id id, ?_⟩
    by_cases hx : x.val = 63 - p.val
    · rw [if_neg (not_not_intro hx)]
      rw [if_pos hx, decide_eq_true hx] at hgood
      exact ite_of_tagChecks s hgood id id fun _ => trivial
    · rw [if_pos hx]
      rw [if_neg hx, decide_eq_false hx] at hgood
      exact hgood

end Sys2Proof.Machine.Tags
end

section
/-! SUPPORT. What a taken good tag makes of the alignment: the success check, the failed attempt and the next (R114, R115, R121 to R124). -/

namespace Sys2Proof.Machine.Tags

variable (s : State) (r : ReaderNo) (k : StationNo) (p : PalletNo)

/-! ### The success check -/

/-- The success check, read off the entries (R121). -/
theorem aligned_iff :
    s.aligned = true ↔
      ∀ j, s.isReaderStation j = true → (s.entry j).pallet ≠ none →
        (s.entry j).status = .confirmed := by
  simp [State.aligned, allStations, MapEntry.occupied, ← Bool.not_eq_true,
    Decidable.or_iff_not_imp_left]

/-- With entry k CONFIRMED, the other entries decide the success check (R114, R121). -/
theorem aligned_setEntry_confirmed (e : MapEntry) (he : e.status = .confirmed) :
    (s.setEntry k e).aligned = true ↔
      ∀ j, j ≠ k → s.isReaderStation j = true → (s.entry j).pallet ≠ none →
        (s.entry j).status = .confirmed := by
  rw [aligned_iff]
  refine forall_congr' fun j => ?_
  rw [State.entry_setEntry]
  by_cases hj : j = k
  · subst hj
    simp [he]
  · rw [if_neg (Ne.symm hj)]
    exact ⟨fun h _ => h, fun h => h hj⟩

/-- In ALIGNING, the success check that passes ends the alignment (R122). -/
theorem checkAligned_of_aligned (h : s.line.state = .aligning ∧ s.aligned = true) :
    s.checkAligned = s.alignSuccess := if_pos h

/-- Outside ALIGNING, or with an entry not CONFIRMED, the success check changes nothing (R98, R121). -/
theorem checkAligned_of_not (h : ¬(s.line.state = .aligning ∧ s.aligned = true)) :
    s.checkAligned = s := if_neg h

/-! ### A failed attempt -/

/-- The attempt at its end: the timer stopped, one attempt fewer (R123). -/
def attemptEnded (s : State) : State :=
  { s with identity :=
    { s.identity with timer := s.identity.timer.stop, remaining := s.identity.remaining - 1 } }

/-- The last attempt failed exhausts the alignment (R123, R124). -/
theorem failAttempt_last (h : s.identity.remaining ≤ 1) :
    s.failAttempt = (attemptEnded s).exhaustAlignment :=
  if_pos (by omega)

/-- An attempt failed before the last is followed by the next (R123). -/
theorem failAttempt_next (h : 2 ≤ s.identity.remaining) :
    s.failAttempt = (attemptEnded s).resetUncertain.startAttempt :=
  if_neg (by omega)

/-- An attempt starts with the UNCERTAIN entries of reader stations that hold a pallet PREDICTED again (R121, 1). -/
theorem resetUncertain_eq :
    s.resetUncertain =
      { s with tracking :=
        { s.tracking with
          map := Vector.ofFn fun j =>
            if s.isReaderStation j = true ∧ (s.entry j).pallet ≠ none ∧
                (s.entry j).status = .uncertain then
              { s.entry j with status := .predicted }
            else s.entry j } } := by
  have hcond (j : StationNo) :
      (s.isReaderStation j && (s.entry j).occupied && (s.entry j).status = .uncertain) = true ↔
        s.isReaderStation j = true ∧ (s.entry j).pallet ≠ none ∧
          (s.entry j).status = .uncertain := by
    simp only [MapEntry.occupied, Bool.and_eq_true, Option.isSome_iff_ne_none, decide_eq_true_eq,
      and_assoc]
  simp only [State.resetUncertain, hcond]

/-- One entry as the attempt starts with it (R121, 1). -/
theorem entry_resetUncertain (j : StationNo) :
    s.resetUncertain.entry j =
      if s.isReaderStation j = true ∧ (s.entry j).pallet ≠ none ∧
          (s.entry j).status = .uncertain then
        { s.entry j with status := .predicted }
      else s.entry j := by
  simp only [resetUncertain_eq, State.entry, Vector.getElem_ofFn]

@[simp] theorem resetUncertain_config : s.resetUncertain.config = s.config := by
  rw [State.resetUncertain]

/-- The reader stations hang on the configuration alone. -/
theorem isReaderStation_congr {t : State} (h : t.config = s.config) (j : StationNo) :
    t.isReaderStation j = s.isReaderStation j := by
  rw [State.isReaderStation, State.isReaderStation, State.inLine, State.inLine, State.stationCount,
    State.stationCount, State.descriptor, State.descriptor, h]

/-- An attempt starts with no more entries confirmed, so one open at a reader keeps the success check from passing (R121). -/
theorem not_aligned_resetUncertain
    (h : ∃ j, s.isReaderStation j = true ∧ (s.entry j).pallet ≠ none ∧
      (s.entry j).status ≠ .confirmed) : ¬s.resetUncertain.aligned = true := by
  obtain ⟨j, hreader, hpallet, hstatus⟩ := h
  intro haligned
  have hreader' := (isReaderStation_congr s (resetUncertain_config s) j).trans hreader
  have hj := (aligned_iff _).mp haligned j hreader'
  rw [entry_resetUncertain] at hj
  split at hj
  case isTrue => cases hj hpallet
  case isFalse => exact hstatus (hj hpallet)

/-- An attempt that does not succeed at once is left with its timer running from 0 (R121, 2). -/
theorem startAttempt_of_not_aligned (h : ¬s.aligned = true) :
    s.startAttempt = { s with identity := { s.identity with timer := .restart } } :=
  checkAligned_of_not _ fun hc => h hc.2

/-- A failed attempt before the last, an entry open at a reader: the next attempt runs (R121, R123). -/
theorem failAttempt_of_open (h : 2 ≤ s.identity.remaining)
    (hopen : ∃ j, s.isReaderStation j = true ∧ (s.entry j).pallet ≠ none ∧
      (s.entry j).status ≠ .confirmed) :
    s.failAttempt =
      { attemptEnded s with
        identity := { (attemptEnded s).identity with timer := .restart }
        tracking := s.resetUncertain.tracking } := by
  rw [failAttempt_next s h,
    startAttempt_of_not_aligned _ (not_aligned_resetUncertain (attemptEnded s) hopen)]
  rfl

/-! ### Good tags taken -/

/-- A good tag that names its entry's pallet is a match (R114). -/
theorem takeGood_match (h : (s.entry k).pallet = some p) :
    s.takeGood r k p = s.takeMatch r k p := if_pos h

/-- A disagreeing good tag at a reader without authority leaves the entry uncertain, after its fault and flag (R115). -/
theorem takeGood_uncertain (h : (s.entry k).pallet ≠ some p)
    (hauth : (s.descriptor k).authority = false) :
    s.takeGood r k p = ((s.addFault .tagMismatch).raise .tagMismatch).takeUncertain r k p := by
  rw [State.takeGood, if_neg h]
  exact if_pos (by simp [hauth])

/-- A tag's record holds the pallet that its entry held (R113). -/
theorem recordTag_of_pallet (quality : Quality) (read e : Option PalletNo) (outcome : TagOutcome)
    (h : (s.entry k).pallet = e) :
    s.recordTag r k quality read outcome =
      { s with identity :=
        { s.identity with
          tag := some
            { reader := r, station := k, quality := quality, palletRead := read,
              entryBefore := e, outcome := outcome, cycle := s.line.cycle } } } := by
  rw [← h, State.recordTag]

/-- A status claim on an entry keeps the pallet it holds (R24). -/
theorem setStatus_of_pallet (e : Option PalletNo) (st : Status) (h : (s.entry k).pallet = e) :
    s.setStatus k st = s.setEntry k { pallet := e, status := st } := by
  rw [← h, State.setStatus]

/-- A match leaves its record and its entry CONFIRMED, then the success check is made (R113, R114, R121). -/
theorem takeMatch_eq (h : (s.entry k).pallet = some p) :
    s.takeMatch r k p =
      State.checkAligned
        { s.setEntry k { pallet := some p, status := .confirmed } with
          identity :=
            { s.identity with
              tag := some
                { reader := r, station := k, quality := .good, palletRead := some p,
                  entryBefore := some p, outcome := .matched, cycle := s.line.cycle } } } := by
  rw [State.takeMatch, setStatus_of_pallet (s.recordTag r k _ _ _) k (some p) .confirmed h,
    recordTag_of_pallet s r k .good _ (some p) _ h]
  rfl

/-- Settles O26: the entry confirmed, then the success check decided by the other entries. -/
theorem tagMatched : Obligations.TagMatched := by
  intro s r k p x d hfree hk hx hidle hline hp taken aligned
  have hcompletes : Completes (.tagGood r p x) d s taken.checkAligned := by
    have h := completes_tagGood s r k p x d hfree hk hx hidle hline
    rwa [takeGood_match (s.answered .ok) r k p hp, takeMatch_eq (s.answered .ok) r k p hp] at h
  have haligned : taken.aligned = true ↔ aligned :=
    aligned_setEntry_confirmed s k ⟨some p, .confirmed⟩ rfl
  refine ⟨fun h => ?_, fun h => ?_⟩
  · rw [checkAligned_of_aligned taken ⟨h.1, haligned.mpr h.2⟩] at hcompletes
    exact hcompletes
  · rwa [checkAligned_of_not taken fun hc => h ⟨hc.1, haligned.mp hc.2⟩] at hcompletes

/-- Settles O27: the entry marked; in ALIGNING the attempt fails, the last one for good. -/
theorem tagUncertain : Obligations.TagUncertain := by
  intro s r k p x d hfree hk hx hidle hline hp hauth marked failed
  have hcompletes : Completes (.tagGood r p x) d s
      (if s.line.state = .aligning then marked.failAttempt else marked) := by
    have h := completes_tagGood s r k p x d hfree hk hx hidle hline
    rw [takeGood_uncertain (s.answered .ok) r k p hp hauth] at h
    exact h
  refine ⟨fun hl => ?_, fun hl hlast => ?_, fun hl hnext hopen => ?_⟩
  · rwa [if_neg hl] at hcompletes
  · rw [if_pos hl, failAttempt_last marked hlast] at hcompletes
    exact hcompletes
  · have hopen' : ∃ j, marked.isReaderStation j = true ∧ (marked.entry j).pallet ≠ none ∧
        (marked.entry j).status ≠ .confirmed := by
      obtain ⟨j, hreader, hpallet, hj⟩ := hopen
      have hentry : marked.entry j = if k = j then { s.entry k with status := .uncertain }
          else s.entry j := State.entry_setEntry s k j _
      refine ⟨j, hreader, ?_⟩
      rw [hentry]
      split
      case isTrue h => exact ⟨h ▸ hpallet, by simp⟩
      case isFalse h => exact ⟨hpallet, hj.resolve_left (Ne.symm h)⟩
    rw [if_pos hl, failAttempt_of_open marked hnext hopen', resetUncertain_eq marked]
      at hcompletes
    exact hcompletes

end Sys2Proof.Machine.Tags
end

section
/-! SUPPORT. The compensation unit: quarantine claims on pallets outside the queue, the ungauged accounting, the gauge station and the three offsets (R129, R134 to R136, R138, R140). -/

namespace Sys2Proof.Machine.Gauge

variable (s : State) (p q : PalletNo) (r : Pallet)

/-! ### A pallet record written -/

/-- A pallet's record written back unchanged leaves the part as it is. -/
theorem setPallet_self : s.setPallet p (s.pallet p) = s := by
  simp [State.setPallet, State.pallet]

/-- Of two writes of one pallet's record the last stands. -/
theorem setPallet_setPallet (r' : Pallet) :
    (s.setPallet p r).setPallet p r' = s.setPallet p r' := by
  simp [State.setPallet]

/-- A flag raised where its event has occurred, and a pallet's record written, in either order. -/
theorem raiseIf_setPallet (c : Bool) (f : Flag) :
    (s.raiseIf c f).setPallet p r = (s.setPallet p r).raiseIf c f := by
  cases c <;> rfl

theorem pallet_raiseIf (c : Bool) (f : Flag) : (s.raiseIf c f).pallet p = s.pallet p := by
  rw [State.pallet, State.raiseIf_tracking, State.pallet]

/-! ### A quarantine claim -/

/-- A quarantine claim on a pallet that is not queued: the flag, and an IN_SERVICE pallet in QUARANTINE (R19, R140). -/
theorem quarantineClaim_of_not_queued (hq : p ∉ s.tracking.queue) :
    s.quarantineClaim p =
      (s.setPallet p
        { s.pallet p with
          service :=
            if (s.pallet p).service = .inService then .quarantine
            else (s.pallet p).service }).raise .quarantined := by
  by_cases hin : (s.pallet p).service = .inService
  · have hnot : ¬(s.raise .quarantined).queued p = true := by simpa [State.queued] using hq
    rw [State.quarantineClaim, if_pos hin, State.quarantinePallet, if_neg hnot, if_pos hin]
    rfl
  · rw [State.quarantineClaim, if_neg hin, if_neg hin, setPallet_self]

/-- A record written, with a quarantine claim where one is due: one write, and the flag (R140). -/
theorem setPallet_claimIf (c : Prop) [Decidable c] (hq : p ∉ s.tracking.queue) :
    (if c then (s.setPallet p r).quarantineClaim p else s.setPallet p r) =
      (s.setPallet p
        { r with
          service := if c ∧ r.service = .inService then .quarantine else r.service }).raiseIf
        (decide c) .quarantined := by
  by_cases hc : c
  · rw [if_pos hc, quarantineClaim_of_not_queued (s.setPallet p r) p hq, setPallet_setPallet,
      State.pallet_setPallet, if_pos rfl]
    simp [hc, State.raiseIf]
  · simp [hc, State.raiseIf]

/-! ### The ungauged accounting -/

/-- The pallet leaves the gauge station ungauged, and its count reaches UNGAUGED_LIMIT (R138, 1). -/
abbrev ClaimDue : Prop :=
  (s.pallet p).gauged = false ∧
    s.config.params.ungaugedLimit ≤ saturate Config.ungaugedMax (s.pallet p).ungauged

/-- The record of a pallet that has left the gauge station (R138, 1). -/
def leftRecord : Pallet :=
  if (s.pallet p).gauged = false then
    { s.pallet p with
      ungauged := saturate Config.ungaugedMax (s.pallet p).ungauged
      service :=
        if s.config.params.ungaugedLimit ≤ saturate Config.ungaugedMax (s.pallet p).ungauged ∧
            (s.pallet p).service = .inService then .quarantine
        else (s.pallet p).service }
  else s.pallet p

/-- A pallet that leaves the gauge station has its record written, with QUARANTINED where it is claimed (R138, 1; R140). -/
theorem countUngauged_eq (hq : p ∉ s.tracking.queue) :
    s.countUngauged p =
      (s.setPallet p (leftRecord s p)).raiseIf (decide (ClaimDue s p)) .quarantined := by
  by_cases hg : (s.pallet p).gauged = false
  · simp only [State.countUngauged, leftRecord, ClaimDue, hg, Bool.false_eq_true, if_false,
      if_true, true_and]
    exact setPallet_claimIf s p _ _ hq
  · simp [State.countUngauged, leftRecord, ClaimDue, hg, setPallet_self, State.raiseIf]

/-- Of the pallet that arrives gauged this pass is cleared, and no other record changes (R138, 2). -/
theorem pallet_clearGauged (arriving : Option PalletNo) :
    (s.forPallet arriving State.clearGauged).pallet q =
      if arriving = some q then { s.pallet q with gauged := false } else s.pallet q := by
  cases arriving with
  | none => rfl
  | some a =>
    simp only [State.forPallet, State.clearGauged, State.pallet_setPallet, Option.some.injEq]
    split
    case isTrue h => rw [h]
    case isFalse => rfl

/-- The arrival of a pallet changes nothing but the pallet table (R138, 2). -/
theorem clearGauged_frame (arriving : Option PalletNo) :
    s.forPallet arriving State.clearGauged =
      { s with
        tracking :=
          { s.tracking with
            pallets := (s.forPallet arriving State.clearGauged).tracking.pallets } } := by
  cases arriving <;> rfl

/-- Settles O21: the leaving pallet's record and claim, then the arriving pallet's record. -/
theorem ungaugedCounted : Obligations.UngaugedCounted := by
  intro s leaving hleaving count claimed t
  have ht : t = (s.forPallet leaving State.countUngauged).forPallet s.gaugedPallet
    State.clearGauged := rfl
  cases leaving with
  | none =>
    rw [State.forPallet] at ht
    have hframe := clearGauged_frame s s.gaugedPallet
    rw [← ht] at hframe
    refine ⟨fun q => ?_, ?_, fun _ => ?_, ?_, ?_, ?_⟩
    · simp [ht, pallet_clearGauged]
    · rintro ⟨_, h, -⟩
      cases h
    all_goals rw [hframe]
  | some p =>
    obtain ⟨harrives, hq⟩ := hleaving p rfl
    rw [State.forPallet, countUngauged_eq s p hq] at ht
    have hframe := clearGauged_frame
      ((s.setPallet p (leftRecord s p)).raiseIf (decide (ClaimDue s p)) .quarantined) s.gaugedPallet
    rw [← ht] at hframe
    refine ⟨fun q => ?_, ?_, fun h => ?_, ?_, ?_, ?_⟩
    · rw [ht, pallet_clearGauged, pallet_raiseIf, State.pallet_setPallet]
      by_cases hp : p = q
      · subst hp
        simp only [harrives, leftRecord, if_true, if_false, true_and]
        rfl
      · simp [hp]
    · rintro ⟨_, ⟨⟩, h⟩
      rw [hframe, decide_eq_true (show ClaimDue s p from h)]
      rfl
    · rw [hframe, decide_eq_false (show ¬ClaimDue s p from h p rfl)]
      rfl
    · rw [hframe]; simp [State.setPallet]
    · rw [hframe]; simp
    · rw [hframe]
      cases decide (ClaimDue s p) <;> rfl

/-! ### The gauge station -/

/-- Each station stands once among the 28 positions. -/
theorem allStations_filter_eq (g : StationNo) :
    allStations.filter (fun j => decide (j = g)) = [g] := by
  revert g
  decide

/-- The one station of the line with role GAUGE, strictly between the load and the unload station, is the gauge station (R129). -/
theorem gaugeStation_eq_some (g : StationNo)
    (hone : ∀ j, s.inLine j = true → ((s.descriptor j).role = .gauge ↔ j = g))
    (hload : 0 < g.val) (hunload : g.val + 1 < s.stationCount) : s.gaugeStation = some g := by
  have hin : s.inLine g = true := by
    simp only [State.inLine, decide_eq_true_eq]
    omega
  have hroles : s.gaugeRoles = [g] := by
    have hline (j : StationNo) :
        (decide ((s.descriptor j).role = .gauge) && s.inLine j) = decide (j = g) := by
      rw [Bool.eq_iff_iff, Bool.and_eq_true, decide_eq_true_eq, decide_eq_true_eq]
      exact ⟨fun ⟨hrole, hj⟩ => (hone j hj).mp hrole,
        fun h => ⟨(hone j (h ▸ hin)).mpr h, h ▸ hin⟩⟩
    rw [State.gaugeRoles, State.lineStations, List.filter_filter, funext hline,
      allStations_filter_eq]
  have hbetween : (decide (0 < g.val) && decide (g.val + 1 < s.stationCount)) = true := by
    rw [decide_eq_true hload, decide_eq_true hunload, Bool.and_self]
  rw [State.gaugeStation, hroles]
  exact if_pos hbetween

/-! ### The offsets -/

/-- An axis is clamped where the stepped offset is beyond the limit on one side or the other (R135). -/
theorem offsetClamped_iff (limit : Nat) (sum : Int) :
    offsetClamped limit sum = true ↔ (limit : Int) < sum ∨ sum < -(limit : Int) := by
  simp only [offsetClamped, decide_eq_true_eq]
  omega

/-- The offset kept is the stepped offset, or the limit on the side on which it is beyond it (R135). -/
theorem clampOffset_eq (limit : Nat) (sum : Int) :
    clampOffset limit sum =
      if (limit : Int) < sum then (limit : Int)
      else if sum < -(limit : Int) then -(limit : Int) else sum := by
  unfold clampOffset
  split
  case isTrue => rw [if_neg (by omega), if_neg (by omega)]
  case isFalse =>
    split
    case isTrue => rw [if_neg (by omega), if_pos (by omega)]
    case isFalse => rw [if_pos (by omega)]

theorem stepLimited_iff (maxStep : Nat) (d : Int) :
    stepLimited maxStep d = true ↔ limitStep maxStep d ≠ d := by
  simp [stepLimited]

/-- A test holds on some axis where it holds on x, on y or on z. -/
theorem any_iff (test : Int → Bool) (a : Axes) :
    a.any test = true ↔ test a.x = true ∨ test a.y = true ∨ test a.z = true := by
  simp [Axes.any, or_assoc]

/-- The offsets that a gauge result leaves: each axis stepped, then clamped (R134, R135). -/
def resultOffset : Axes :=
  ⟨clampOffset s.config.params.offsetLimit (s.steppedOffset p).x,
    clampOffset s.config.params.offsetLimit (s.steppedOffset p).y,
    clampOffset s.config.params.offsetLimit (s.steppedOffset p).z⟩

/-- A gauge result for a pallet that is not queued: its record in one write, STEP_LIMITED, and QUARANTINED for the one claim (R134 to R136, R140). -/
theorem applyGaugeResult_eq (hq : p ∉ s.tracking.queue) :
    s.applyGaugeResult p =
      ((s.setPallet p
        { s.pallet p with
          offset := resultOffset s p
          ungauged := 0
          gauged := true
          service :=
            if (s.steppedOffset p).any (offsetClamped s.config.params.offsetLimit) = true ∧
                (s.pallet p).service = .inService then .quarantine
            else (s.pallet p).service }).raiseIf
        (s.compensation.any (stepLimited s.config.params.maxStep)) .stepLimited).raiseIf
        ((s.steppedOffset p).any (offsetClamped s.config.params.offsetLimit)) .quarantined := by
  have hclaim := setPallet_claimIf
    (s.raiseIf (s.compensation.any (stepLimited s.config.params.maxStep)) .stepLimited) p
    { s.pallet p with offset := resultOffset s p, ungauged := 0, gauged := true }
    ((s.steppedOffset p).any (offsetClamped s.config.params.offsetLimit) = true)
    (by rwa [State.raiseIf_tracking])
  rw [raiseIf_setPallet, raiseIf_setPallet, Bool.decide_eq_true] at hclaim
  exact hclaim

end Sys2Proof.Machine.Gauge
end

section
/-! SUPPORT. The gauge data words and the gauge header word: what the part decides of a write of each as it arrives, and what it does at the OK (R130 to R133). -/

namespace Sys2Proof.Machine.Gauge

variable (s : State) (p : PalletNo)

/-! ### The gauge data words -/

/-- A write of a gauge data word completes in every state of the line, its value taken (R130). -/
theorem completes_gaugeData (axis : Axis) (value d : Word) (hfree : s.portsFree) :
    Completes (.gaugeDataWrite axis value) d s ((s.answered .ok).takeGaugeData axis value) := by
  have hp : s.presents (.gaugeDataWrite axis value) =
      some (s.onBus ⟨.write, (GateWord.gaugeData axis).offset, .four, value⟩) := by
    cases axis <;> exact congrArg some (by rw [State.busWrite, four_mask]; rfl)
  have hx : exec (.gaugeDataWrite axis value) s =
      s.ifPortFree (s.arrive ⟨.write, (GateWord.gaugeData axis).offset, .four, value⟩) := by
    show s.hostWrite _ _ _ = _
    rw [State.hostWrite, four_mask]
  have h := completes_snoop s _ ⟨.write, (GateWord.gaugeData axis).offset, .four, value⟩ d hp hx
    hfree rfl (by
      simp [State.decide, State.decideWrite, windowOf_offset, GateWord.offset_aligned, Size.bytes,
        State.decideGateWrite, Request.forwardAs])
  simpa [State.snoopAtOk, windowOf_offset, State.gateWordAtOk] using h

/-! ### The gauge header word -/

/-- What the part decides of a header of status VALID or PROBE_FAIL: its checks in order (R131, R132). -/
theorem decide_header (status : Nat) (hs : status ≤ 1) :
    s.decide ⟨.write, GateWord.gaugeHeader.offset, .four, headerWord p status⟩ =
      .after (s.headerChecks p) (fun _ => ⟨s.gaugeStation.map StationNo.wide, some p⟩)
        (.forward .snoop GateWord.gaugeHeader.offset (headerWord p status)) := by
  obtain ⟨hread, hspare⟩ := readHeader_headerWord p status (by omega)
  simp [State.decide, State.decideWrite, windowOf_offset, GateWord.offset_aligned, Size.bytes,
    State.decideGateWrite, State.decideHeader, hread, hspare, hs, Request.forwardAs]

/-- No check of a gauge header refuses with PATCH_OVERFLOW, which alone has an effect beyond its report. -/
theorem headerChecks_cause (cause : Cause) (h : firstFailure (s.headerChecks p) = some cause) :
    cause ≠ .patchOverflow := by
  rintro rfl
  simp only [State.headerChecks, firstFailure] at h
  repeat' split at h
  all_goals cases h

/-- The answer to a gauge header: its refusal with the gauge station and the header's pallet, or its effect at the OK (R132). -/
def HeaderAnswer (i : Instr) (d : Word) (taken : State) : Option Cause → Prop
  | some cause =>
    exec i s =
      .next
        (s.refusedWrite GateWord.gaugeHeader.offset cause
          ⟨s.gaugeStation.map StationNo.wide, some p⟩)
  | none => Completes i d s taken

/-- A write of a header of status VALID or PROBE_FAIL is answered by the checks of the header (R131, R132). -/
theorem headerWrite_answer (i : Instr) (status : Nat) (hs : status ≤ 1) (d : Word)
    (hp : s.presents i =
      some (s.busWrite GateWord.gaugeHeader.offset .four (headerWord p status)))
    (hx : exec i s = s.hostWrite GateWord.gaugeHeader.offset .four (headerWord p status))
    (hfree : s.portsFree) :
    HeaderAnswer s p i d (State.takeHeader ⟨p, status⟩ (s.answered .ok))
      (firstFailure (s.headerChecks p)) := by
  have hd := decide_header s p status hs
  cases hf : firstFailure (s.headerChecks p) with
  | some cause =>
    exact Stations.write_refused s i _ .four (headerWord p status) cause _ hx hfree.1
      (by rw [four_mask, hd, Decision.after, hf]) (headerChecks_cause s p cause hf)
  | none =>
    obtain ⟨hread, -⟩ := readHeader_headerWord p status (by omega)
    have hagain : firstFailure ((s.answered .ok).headerChecks p) = none := hf
    have h := completes_snoop s i
      ⟨.write, GateWord.gaugeHeader.offset, .four, headerWord p status⟩ d
      (by rw [hp, State.busWrite, four_mask]; rfl) (by rw [hx, State.hostWrite, four_mask]) hfree
      rfl (by rw [hd, Decision.after, hf])
    show Completes i d s _
    simpa [State.snoopAtOk, windowOf_offset, State.gateWordAtOk, State.headerAtOk,
      State.takeOrDrop, hread, hagain] using h

/-- A VALID header taken applies its result (R134). -/
theorem headerValid_answer (d : Word) (hfree : s.portsFree) :
    HeaderAnswer s p (.gaugeHeaderValid p) d ((s.answered .ok).applyGaugeResult p)
      (firstFailure (s.headerChecks p)) :=
  headerWrite_answer s p _ 0 (by decide) d
    (by simp only [State.presents, headerWord, Nat.zero_mul, Nat.add_zero]; rfl) rfl hfree

/-- A PROBE_FAIL header taken does nothing (R133). -/
theorem headerProbeFail_answer (d : Word) (hfree : s.portsFree) :
    HeaderAnswer s p (.gaugeHeaderProbeFail p) d (s.answered .ok)
      (firstFailure (s.headerChecks p)) :=
  headerWrite_answer s p _ 1 (by decide) d
    (by simp only [State.presents, headerWord, Nat.one_mul]; rfl) rfl hfree

/-- The pallet that stands at the gauge station, not UNCERTAIN, matches (R132, 3). -/
theorem gaugeMatches_iff (g : StationNo) (hg : s.gaugeStation = some g) :
    s.gaugeMatches p = true ↔
      ¬((s.entry g).pallet ≠ some p ∨ (s.entry g).status = .uncertain) := by
  simp [State.gaugeMatches, hg]

/-- With no gauge station a header fails its first check (R132, 1). -/
theorem firstFailure_headerChecks_none (hg : s.gaugeStation = none) :
    firstFailure (s.headerChecks p) = some .notInState := by
  simp [State.headerChecks, firstFailure, hg]

/-- With a gauge station the checks that remain are no index in flight and the pallet (R132, 2 and 3). -/
theorem firstFailure_headerChecks_some (g : StationNo) (hg : s.gaugeStation = some g) :
    firstFailure (s.headerChecks p) =
      firstFailure [(!s.indexing, .gaugeLate), (s.gaugeMatches p, .gaugeMismatch)] := by
  simp [State.headerChecks, firstFailure, hg]

/-- The answers to a pallet's two headers, VALID and PROBE_FAIL, by the checks they share (R132). -/
def BothHeadersAnswer (d : Word) (answer : Option Cause) : Prop :=
  HeaderAnswer s p (.gaugeHeaderValid p) d ((s.answered .ok).applyGaugeResult p) answer ∧
    HeaderAnswer s p (.gaugeHeaderProbeFail p) d (s.answered .ok) answer

/-- A cause of R132 refuses both headers with the gauge station and the pallet. -/
theorem both_refused (g : Option StationNo) (hg : s.gaugeStation = g) (d : Word) (cause : Cause)
    (h : BothHeadersAnswer s p d (some cause)) :
    exec (.gaugeHeaderValid p) s =
        .next (s.refusedWrite 0x50 cause ⟨g.map StationNo.wide, some p⟩) ∧
      exec (.gaugeHeaderProbeFail p) s =
        .next (s.refusedWrite 0x50 cause ⟨g.map StationNo.wide, some p⟩) :=
  hg ▸ h

/-- Settles O30: data words without a check; of a header R132's three checks, for both kinds at once. -/
theorem gaugeWritesChecked : Obligations.GaugeWritesChecked := by
  refine ⟨fun s axis value d hfree => ?_, fun s p d hfree => ?_⟩
  · have h := completes_gaugeData s axis value d hfree
    cases axis <;> exact h
  · have hboth : BothHeadersAnswer s p d (firstFailure (s.headerChecks p)) :=
      ⟨headerValid_answer s p d hfree, headerProbeFail_answer s p d hfree⟩
    refine ⟨fun hg => ?_, fun g hg => ?_⟩
    · rw [firstFailure_headerChecks_none s p hg] at hboth
      exact both_refused s p none hg d _ hboth
    · rw [firstFailure_headerChecks_some s p g hg] at hboth
      refine Stations.ite_of_firstFailure hboth (by simp [State.indexing])
        (both_refused s p (some g) hg d _) fun h => ?_
      exact Stations.ite_of_firstFailure h (gaugeMatches_iff s p g hg)
        (both_refused s p (some g) hg d _) And.right

/-- A VALID header for the pallet that stands at the gauge station, not UNCERTAIN, with no index in flight, applies its result (R132, R134). -/
theorem completes_headerValid (g : StationNo) (d : Word) (hfree : s.portsFree)
    (hg : s.gaugeStation = some g) (hidle : s.gate.state = .idle)
    (hp : (s.entry g).pallet = some p) (hstatus : (s.entry g).status ≠ .uncertain) :
    Completes (.gaugeHeaderValid p) d s ((s.answered .ok).applyGaugeResult p) := by
  have hmatch : s.gaugeMatches p = true :=
    (gaugeMatches_iff s p g hg).mpr (not_or.mpr ⟨not_not_intro hp, hstatus⟩)
  have h := headerValid_answer s p d hfree
  have hpass : firstFailure (s.headerChecks p) = none := by
    simp [firstFailure_headerChecks_some s p g hg, firstFailure, State.indexing, hidle, hmatch]
  rwa [hpass] at h

/-- Settles O31: the header's checks pass, and the result is applied axis by axis. -/
theorem gaugeResultApplied : Obligations.GaugeResultApplied := by
  intro s g p d hfree hone hload hunload hidle hp hstatus hq maxStep limit step moved clamped o c
    anyLimited anyClamped
  have hstation := gaugeStation_eq_some s g hone hload hunload
  have hcompletes := completes_headerValid s p g d hfree hstation hidle hp hstatus
  have hlimited : (s.answered .ok).compensation.any
      (stepLimited (s.answered .ok).config.params.maxStep) = decide anyLimited := by
    rw [Bool.eq_iff_iff, decide_eq_true_eq, any_iff]
    simp only [stepLimited_iff]
    rfl
  have hclamped : ((s.answered .ok).steppedOffset p).any
      (offsetClamped (s.answered .ok).config.params.offsetLimit) = decide anyClamped := by
    rw [Bool.eq_iff_iff, decide_eq_true_eq, any_iff]
    simp only [offsetClamped_iff]
    rfl
  rw [applyGaugeResult_eq (s.answered .ok) p hq, hlimited, hclamped] at hcompletes
  simp only [decide_eq_true_eq, resultOffset, clampOffset_eq] at hcompletes
  exact hcompletes

end Sys2Proof.Machine.Gauge
end

section
/-! SUPPORT. What leaves the configuration store and the rule table alone: every operation over State but the four that take a configuration write (R146, R180). -/

namespace Sys2Proof.Machine.Settings

/-- The state t holds the configuration and the patch rules of s. -/
@[simp] abbrev SameSettings (t s : State) : Prop := t.config = s.config ∧ t.patch = s.patch

theorem SameSettings.trans {s t u : State} (h : SameSettings u t) (h' : SameSettings t s) :
    SameSettings u s :=
  ⟨h.1.trans h'.1, h.2.trans h'.2⟩

variable (s : State)

/-- One of two states, each with the settings of s. -/
theorem SameSettings.ite {t u : State} {c : Prop} [Decidable c] (ht : SameSettings t s)
    (hu : SameSettings u s) : SameSettings (if c then t else u) s := by
  split
  · exact ht
  · exact hu

/-! ### The tracking unit -/

@[simp] theorem quarantinePallet_settings (p : PalletNo) :
    SameSettings (s.quarantinePallet p) s :=
  .ite s ⟨rfl, rfl⟩ ⟨rfl, rfl⟩

@[simp] theorem quarantineClaim_settings (p : PalletNo) : SameSettings (s.quarantineClaim p) s :=
  .ite s (by simp) (by simp)

@[simp] theorem claimBlock_settings (k : StationNo) (b : Block) :
    SameSettings (s.claimBlock k b) s := by
  unfold State.claimBlock
  split <;> exact ⟨rfl, rfl⟩

@[simp] theorem correctEntry_settings (k : StationNo) (p : PalletNo) (arrives : Bool) :
    SameSettings (s.correctEntry k p arrives) s := by
  cases h : (s.entry k).pallet <;> simp [State.correctEntry, h, State.displace]

@[simp] theorem unloadExit_settings : SameSettings s.unloadExit s := by
  unfold State.unloadExit
  split
  · exact ⟨rfl, rfl⟩
  · exact .ite s (by simp) (by simp)

@[simp] theorem mapShift_settings : SameSettings s.mapShift s := by
  simp [State.mapShift, State.moveEntries]

/-! ### The compensation unit -/

@[simp] theorem applyGaugeResult_settings (p : PalletNo) :
    SameSettings (s.applyGaugeResult p) s :=
  .ite s (by simp) (by simp)

@[simp] theorem countUngauged_settings (p : PalletNo) : SameSettings (s.countUngauged p) s :=
  .ite s ⟨rfl, rfl⟩ (.ite s (by simp) (by simp))

@[simp] theorem ungaugedAccounting_settings (leaving : Option PalletNo) :
    SameSettings (s.ungaugedAccounting leaving) s := by
  have hleft : SameSettings (s.forPallet leaving State.countUngauged) s := by
    cases leaving with
    | none => exact ⟨rfl, rfl⟩
    | some p => exact countUngauged_settings s p
  have hcleared (t : State) (p : Option PalletNo) :
      SameSettings (t.forPallet p State.clearGauged) t := by
    cases p <;> exact ⟨rfl, rfl⟩
  exact (hcleared _ _).trans hleft

/-! ### The identity checker -/

@[simp] theorem enterProduction_settings : SameSettings s.enterProduction s := by
  simp [State.enterProduction]

@[simp] theorem checkAligned_settings : SameSettings s.checkAligned s :=
  .ite s (by simp [State.alignSuccess]) (by simp)

@[simp] theorem startAttempt_settings : SameSettings s.startAttempt s := by
  simp [State.startAttempt]

@[simp] theorem failAttempt_settings : SameSettings s.failAttempt s :=
  .ite s (by simp [State.exhaustAlignment]) (by simp [State.resetUncertain])

@[simp] theorem beginAlignment_settings : SameSettings s.beginAlignment s :=
  .ite s (by simp) (by simp)

@[simp] theorem recordTag_settings (r : ReaderNo) (k : StationNo) (quality : Quality)
    (read : Option PalletNo) (outcome : TagOutcome) :
    SameSettings (s.recordTag r k quality read outcome) s :=
  ⟨rfl, rfl⟩

@[simp] theorem takeMatch_settings (r : ReaderNo) (k : StationNo) (p : PalletNo) :
    SameSettings (s.takeMatch r k p) s := by
  simp [State.takeMatch, State.setStatus]

@[simp] theorem takeUncertain_settings (r : ReaderNo) (k : StationNo) (p : PalletNo) :
    SameSettings (s.takeUncertain r k p) s :=
  .ite s (by simp [State.setStatus]) (by simp [State.setStatus])

@[simp] theorem takeCorrection_settings (r : ReaderNo) (k : StationNo) (p : PalletNo) :
    SameSettings (s.takeCorrection r k p) s :=
  .ite s (by simp) (by simp)

@[simp] theorem takeConflict_settings (r : ReaderNo) (k : StationNo) (p : PalletNo) :
    SameSettings (s.takeConflict r k p) s := by
  simp [State.takeConflict]

@[simp] theorem takeGood_settings (r : ReaderNo) (k : StationNo) (p : PalletNo) :
    SameSettings (s.takeGood r k p) s :=
  .ite s (by simp) (.ite s (by simp) (.ite s (by simp) (by simp)))

@[simp] theorem takeTag_settings (t : TagWord) : SameSettings (State.takeTag t s) s := by
  unfold State.takeTag
  split
  · exact .ite s (by simp) (by simp [State.takeNoRead])
  · exact ⟨rfl, rfl⟩

@[simp] theorem presenceCheck_settings : SameSettings s.presenceCheck s := by
  simp [State.presenceCheck]

/-! ### The index cycle -/

@[simp] theorem acceptIndex_settings : SameSettings s.acceptIndex s := by
  simp [State.acceptIndex]

@[simp] theorem evaluateProducing_settings (failed : Bool) :
    SameSettings (s.evaluateProducing failed) s := by
  have hmoved (t : State) (halt restrict : Prop) [Decidable halt] [Decidable restrict] :
      SameSettings
        (if halt then t.enterLine .stopped
          else if restrict then { t with line := { t.line with clean := 0 } }.enterLine .restricted
          else t) t :=
    .ite t (by simp) (.ite t (by simp) (by simp))
  exact .ite s (hmoved { s with line := { s.line with failed := s.failedNext } } _ _) ⟨rfl, rfl⟩

@[simp] theorem evaluateRestricted_settings (failed : Bool) :
    SameSettings (s.evaluateRestricted failed) s := by
  have hmoved (t : State) (halt : Prop) [Decidable halt] :
      SameSettings (if halt then t.enterLine .stopped else t) t := .ite t (by simp) (by simp)
  exact .ite s (hmoved { s with line := { s.line with failed := s.failedNext, clean := 0 } } _)
    (.ite s (by simp) ⟨rfl, rfl⟩)

@[simp] theorem applyStopPending_settings : SameSettings s.applyStopPending s :=
  .ite s (by simp) (by simp)

@[simp] theorem evaluateCycle_settings : SameSettings s.evaluateCycle s := by
  cases h : s.line.state <;> simp [State.evaluateCycle, h, State.rotateCycle]

@[simp] theorem completeIndex_settings : SameSettings s.completeIndex s := by
  simp [State.completeIndex, State.gateCompletion, State.resetUnits]

@[simp] theorem resolveComplete_settings : SameSettings s.resolveComplete s := by
  simp [State.resolveComplete]

/-! ### The station monitor -/

@[simp] theorem withdraw_settings (k : StationNo) : SameSettings (s.withdraw k) s :=
  .ite s ⟨rfl, rfl⟩ ⟨rfl, rfl⟩

@[simp] theorem claimCompletion_settings (k : StationNo) (casting : Bool) :
    SameSettings (s.claimCompletion k casting) s := by
  have hloaded : SameSettings (if k.val = 0 ∧ casting then s.claimBlock k .inWork else s) s :=
    .ite s (by simp) (by simp)
  exact .ite s (by simpa using hloaded) hloaded

@[simp] theorem clearRose_settings (k : StationNo) : SameSettings (s.clearRose k) s := by
  unfold State.clearRose
  split
  · exact .ite s (by simp [State.completeStation]) (by simp)
  · exact ⟨rfl, rfl⟩

@[simp] theorem acknowledge_settings (k : StationNo) : SameSettings (s.acknowledge k) s := by
  unfold State.acknowledge
  split <;> exact ⟨rfl, rfl⟩

@[simp] theorem clearFell_settings (k : StationNo) : SameSettings (s.clearFell k) s := by
  have htripped : SameSettings (if s.indexing && s.inLine k then s.trip .clearLost else s) s :=
    .ite s (by simp) (by simp)
  simpa [State.clearFell] using htripped

@[simp] theorem updateClear_settings (k : StationNo) (f : InputLine → InputLine) :
    SameSettings (s.updateClear k f) s :=
  .ite s ⟨rfl, rfl⟩ (.ite s (by simp) (by simp))

@[simp] theorem settleInput_settings (k : StationNo) (input : FieldInput) :
    SameSettings (s.settleInput k input) s := by
  cases input with
  | clear => exact updateClear_settings s k _
  | presence => exact ⟨rfl, rfl⟩

@[simp] theorem enterSetup_settings : SameSettings s.enterSetup s := by
  simp [State.enterSetup]

@[simp] theorem reachAck_settings (k : StationNo) : SameSettings (s.reachAck k) s := by
  unfold State.reachAck
  split
  · exact .ite s ⟨rfl, rfl⟩ ⟨rfl, rfl⟩
  · exact ⟨rfl, rfl⟩

@[simp] theorem takeUnitBoundary_settings (k : StationNo) :
    SameSettings (s.takeUnitBoundary k) s := by
  have hwarned (t : State) (c : Prop) [Decidable c] :
      SameSettings (if c then t.reachWarn k else t) t := .ite t ⟨rfl, rfl⟩ ⟨rfl, rfl⟩
  have hlimited (t : State) (c : Prop) [Decidable c] :
      SameSettings (if c then t.reachLimit k else t) t := .ite t ⟨rfl, rfl⟩ ⟨rfl, rfl⟩
  have hacked (t : State) (c : Prop) [Decidable c] :
      SameSettings (if c then t.reachAck k else t) t := .ite t (by simp) ⟨rfl, rfl⟩
  refine .ite s ?_ ⟨rfl, rfl⟩
  simp [hacked, hlimited, hwarned]

@[simp] theorem takeIndexBoundary_settings : SameSettings s.takeIndexBoundary s :=
  .ite s (.ite s (by simp) (by simp)) (by simp)

@[simp] theorem takeAlignBoundary_settings : SameSettings s.takeAlignBoundary s :=
  .ite s (by simp) (by simp)

@[simp] theorem advance_settings : SameSettings s.advance s := ⟨rfl, rfl⟩

/-! ### The gate commands -/

@[simp] theorem insertPallet_settings (p : PalletNo) (v : Fin 6) (d : Destination) :
    SameSettings (s.insertPallet p v d) s := by
  cases d with
  | queue => exact ⟨rfl, rfl⟩
  | station k => cases h : s.lineStation k <;> simp [State.insertPallet, h]

@[simp] theorem removePallet_settings (p : PalletNo) : SameSettings (s.removePallet p) s := by
  unfold State.removePallet
  split <;> exact ⟨rfl, rfl⟩

@[simp] theorem stopLine_settings : SameSettings s.stopLine s := by
  have hstopped : SameSettings
      (if s.indexing then { s with line := { s.line with stopPending := true } }
        else s.enterLine .stopped) s :=
    .ite s ⟨rfl, rfl⟩ (by simp)
  unfold State.stopLine
  split
  · simp
  · exact hstopped
  · exact hstopped
  all_goals exact ⟨rfl, rfl⟩

theorem withSome_settings {α : Type} (x : Option α) (f : α → State → State)
    (hf : ∀ a, SameSettings (f a s) s) : SameSettings (s.withSome x f) s := by
  cases x with
  | some a => exact hf a
  | none => exact ⟨rfl, rfl⟩

/-- No gate command writes the configuration or a rule (R174). -/
@[simp] theorem commandEffect_settings (c : GateCommand) :
    SameSettings (State.commandEffect c s) s := by
  cases c with
  | insert p v d => exact withSome_settings s _ _ fun w => insertPallet_settings s p w d
  | setVariant p v => exact withSome_settings s _ _ fun w => ⟨rfl, rfl⟩
  | confirm k => exact withSome_settings s _ _ fun j => ⟨rfl, rfl⟩
  | releaseStation k => exact withSome_settings s _ _ fun j => ⟨rfl, rfl⟩
  | resolveIndex o => exact .ite s (resolveComplete_settings s) ⟨rfl, rfl⟩
  | _ =>
    simp [State.commandEffect, State.setService, State.setBlock, State.holdLine, State.resumeLine]

/-! ### The classifier -/

@[simp] theorem refuse_settings (kind : Kind) (outside : Bool) (o : Offset) (cause : Cause)
    (place : Place) : SameSettings (s.refuse kind outside o cause place) s := by
  simp [State.refuse]

@[simp] theorem imageError_settings (kind : Kind) (outside : Bool) (o : Offset) :
    SameSettings (s.imageError kind outside o) s := by
  simp [State.imageError]

@[simp] theorem refuseArrival_settings (kind : Kind) (o : Offset) (cause : Cause) (place : Place) :
    SameSettings (s.refuseArrival kind o cause place) s := by
  have hnoted : SameSettings
      (if cause = .patchOverflow then (s.addFault .patchOverflow).raise .patchOverflow else s) s :=
    .ite s ⟨rfl, rfl⟩ ⟨rfl, rfl⟩
  simpa [State.refuseArrival] using hnoted

/-- A transaction that arrives inside the line image is refused or stands ARRIVED, and writes nothing yet (R159). -/
@[simp] theorem arrive_settings (q : Request) : SameSettings (s.arrive q) s := by
  unfold State.arrive
  split
  · exact refuseArrival_settings s _ _ _ _
  · exact .ite s (by simp) (by simp)

@[simp] theorem arriveOutside_settings (kind : Kind) (a : Address) (size : Size) (data : Word) :
    SameSettings (s.arriveOutside kind a size data) s :=
  .ite s (by simp) (by simp)

@[simp] theorem forwardEffect_settings (t : Transaction) : SameSettings (t.forwardEffect s) s := by
  unfold Transaction.forwardEffect
  split <;> exact ⟨rfl, rfl⟩

@[simp] theorem forward_settings : SameSettings s.forward s := by
  unfold State.forward
  split
  · exact .ite s (by simp) (by simp)
  · exact ⟨rfl, rfl⟩

@[simp] theorem undoForward_settings (t : Transaction) : SameSettings (t.undoForward s) s := by
  unfold Transaction.undoForward
  split
  · exact withdraw_settings s _
  all_goals exact ⟨rfl, rfl⟩

@[simp] theorem timeOut_settings : SameSettings s.timeOut s := by
  unfold State.timeOut
  split
  · exact .ite s (by simp) (by simp)
  · exact ⟨rfl, rfl⟩

@[simp] theorem abandonTransaction_settings : SameSettings s.abandonTransaction s := by
  unfold State.abandonTransaction
  split
  · exact .ite s ⟨rfl, rfl⟩ ⟨rfl, rfl⟩
  · exact ⟨rfl, rfl⟩

/-- An operation made for each station in turn. -/
theorem foldl_settings (l : List StationNo) (f : State → StationNo → State)
    (hf : ∀ t k, SameSettings (f t k) t) : SameSettings (l.foldl f s) s := by
  induction l generalizing s with
  | nil => exact ⟨rfl, rfl⟩
  | cons k l ih => exact (ih (f s k)).trans (hf s k)

@[simp] theorem takeDue_settings : SameSettings s.takeDue s := by
  have hfilters (t : State) : SameSettings
      (allStations.foldl (fun s k => (s.settleInput k .clear).settleInput k .presence) t) t :=
    foldl_settings t _ _ fun t k => by simp
  have hunits (t : State) : SameSettings
      (allStations.foldl (fun s k => s.takeUnitBoundary k) t) t :=
    foldl_settings t _ _ fun t k => by simp
  simp [State.takeDue, hfilters, hunits]

/-! ### The snooped words -/

/-- A snooped write dropped, or taken with an effect that keeps the settings (R167, R168). -/
theorem takeOrDrop_settings (o : Offset) (checks : List (Bool × Cause)) (effect : State → State)
    (h : SameSettings (effect s) s) : SameSettings (s.takeOrDrop o checks effect) s := by
  unfold State.takeOrDrop
  split
  · exact ⟨rfl, rfl⟩
  · exact h

@[simp] theorem transferAtOk_settings (o : Offset) (data : Word) :
    SameSettings (s.transferAtOk o data) s := by
  unfold State.transferAtOk
  split
  · split
    · exact ⟨rfl, rfl⟩
    · exact acceptIndex_settings s
  all_goals exact ⟨rfl, rfl⟩

@[simp] theorem gateAtOk_settings (o : Offset) (data : Word) :
    SameSettings (s.gateAtOk o data) s := by
  unfold State.gateAtOk
  split
  · exact takeOrDrop_settings s _ _ _ (commandEffect_settings s _)
  · exact ⟨rfl, rfl⟩

@[simp] theorem clearCaptures_settings (w : Word) : SameSettings (s.clearCaptures w) s :=
  .ite s (by simp) (by simp)

/-- No word of the gate control block writes the configuration or a rule (R160). -/
@[simp] theorem gateWordAtOk_settings (o : Offset) (size : Size) (data : Word) (w : GateWord) :
    SameSettings (s.gateWordAtOk o size data w) s := by
  cases w with
  | gateCommand => exact gateAtOk_settings s o data
  | transfer => exact transferAtOk_settings s o data
  | tag => exact takeOrDrop_settings s _ _ _ (takeTag_settings s _)
  | gaugeHeader =>
    exact takeOrDrop_settings s _ _ _ (.ite s (applyGaugeResult_settings s _) ⟨rfl, rfl⟩)
  | captureClear => exact clearCaptures_settings s _
  | dropRecord => exact .ite s ⟨rfl, rfl⟩ ⟨rfl, rfl⟩
  | _ => exact ⟨rfl, rfl⟩

end Sys2Proof.Machine.Settings
end

section
/-! SUPPORT. The fields of a configuration entry as a write forms it: the written ones by the write's checks, the others as they were (R146, R180). -/

namespace Sys2Proof.Machine.Settings

/-- Every field of an entry with the bytes b holds one of its values. -/
def FieldsHold (fields : List FieldSpec) (b : Nat → Nat) : Prop :=
  ∀ f ∈ fields, f.takes (leRead b f.first f.len) = true

theorem fieldsHold_cons (f : FieldSpec) (fields : List FieldSpec) (b : Nat → Nat) :
    FieldsHold (f :: fields) b ↔ f.takes (leRead b f.first f.len) = true ∧ FieldsHold fields b :=
  List.forall_mem_cons

theorem fieldsHold_nil (b : Nat → Nat) : FieldsHold [] b ↔ True := by
  simp [FieldsHold]

theorem inRange_iff (lo hi n : Nat) : inRange lo hi n = true ↔ lo ≤ n ∧ n ≤ hi := by
  simp [inRange]

/-- A lower bound outlasts the reduction of a number to a field wide enough for it. -/
theorem le_mod {lo n m : Nat} (h : lo ≤ n) (hm : n < m) : lo ≤ n % m :=
  (Nat.mod_eq_of_lt hm).symm ▸ h

/-- A number read from bytes hangs on those bytes alone. -/
theorem leRead_congr (b b' : Nat → Nat) (first len : Nat)
    (h : ∀ i, i < len → b (first + i) = b' (first + i)) :
    leRead b first len = leRead b' first len := by
  induction len with
  | zero => rfl
  | succ len ih =>
    rw [leRead, leRead, ih fun i hi => h i (Nat.lt_succ_of_lt hi), h len (Nat.lt_succ_self len)]

/-- A number of one byte is that byte. -/
theorem leRead_one (b : Nat → Nat) (first : Nat) : leRead b first 1 = b first := by
  simp [leRead]

variable (fields : List FieldSpec) (old : Nat → Nat) (first : Nat) (size : Size) (data : Word)

/-- A field that a write does not touch keeps its value (R146, R180). -/
theorem leRead_formBytes_untouched (f : FieldSpec) (h : f.touched first size.bytes = false) :
    leRead (formBytes old first size data) f.first f.len = leRead old f.first f.len := by
  refine leRead_congr _ _ _ _ fun i hi => if_neg ?_
  simp only [FieldSpec.touched, Bool.and_eq_false_iff, decide_eq_false_iff_not] at h
  omega

/-- A byte of an entry as formed is a byte where it was one. -/
theorem formBytes_lt (i : Nat) (h : old i < 256) : formBytes old first size data i < 256 := by
  unfold formBytes
  split
  · exact Nat.mod_lt _ (by decide)
  · exact h

/-- Fields that held their values, under a write whose checks pass: they hold them in the entry as formed (R180). -/
theorem fieldsHold_formed (hold : FieldsHold fields old)
    (h : entryTakes fields (formBytes old first size data) first size.bytes = true) :
    FieldsHold fields (formBytes old first size data) := by
  intro f hf
  cases ht : f.touched first size.bytes with
  | false =>
    rw [leRead_formBytes_untouched old first size data f ht]
    exact hold f hf
  | true =>
    have hall := List.all_eq_true.mp (Bool.and_eq_true_iff.mp h).1 f hf
    simpa [ht] using hall

/-! ### The checks of a rule write -/

/-- The checks of a rule write's bytes: each field holds one of its values, and the bytes without a field are zero (R142, R146). -/
theorem entryTakes_ruleFields (formed : Nat → Nat) :
    entryTakes ruleFields formed 0 8 = true ↔
      formed 0 < 8 ∧ formed 1 ≤ 27 ∧ (1 ≤ formed 2 ∧ formed 2 ≤ 63) ∧ formed 3 ≤ 2 ∧
        formed 4 ≤ 6 ∧ formed 5 = 0 ∧ formed 6 = 0 ∧ formed 7 = 0 := by
  simp [entryTakes, ruleFields, FieldSpec.touched, inRange, leRead_one, List.range_succ, and_assoc]

/-- A rule that is enabled names a word that no other enabled rule names (R146). -/
theorem ruleUnique_iff (s : State) (r : Fin 24) (f : PatchRule) :
    s.ruleUnique r f = true ↔
      (f.enabled = true → ∀ j, j ≠ r → (s.rule j).enabled = true →
        ¬((s.rule j).station = f.station ∧ (s.rule j).word = f.word)) := by
  simp [State.ruleUnique, PatchRule.names, Fin.ext_iff, Decidable.or_iff_not_imp_left]

/-! ### Entries replaced -/

theorem descriptor_takeDescriptor (s : State) (k j : StationNo) (d : Descriptor) :
    (s.takeDescriptor k d).descriptor j = if k = j then d else s.descriptor j := by
  simp only [State.descriptor, State.takeDescriptor, Vector.getElem_set, Fin.ext_iff]

theorem variantEntry_takeVariant (s : State) (v w : Fin 6) (e : VariantEntry) :
    (s.takeVariant v e).variantEntry w = if v = w then e else s.variantEntry w := by
  simp only [State.variantEntry, State.takeVariant, Vector.getElem_set, Fin.ext_iff]

theorem rule_takeRule (s : State) (r i : Fin 24) (f : PatchRule) :
    (s.takeRule r f).rule i = if r = i then f else s.rule i := by
  simp only [State.rule, State.takeRule, Vector.getElem_set, Fin.ext_iff]

/-- The law hangs on the configuration and the rules alone. -/
theorem configLaw_congr {s t : State} (law : ConfigLaw s)
    (h : SameSettings t s) : ConfigLaw t := by
  obtain ⟨_, _, _, _, _, _, _, _, _, _, _, _⟩ := s
  obtain ⟨_, _, _, _, _, _, _, _, _, _, _, _⟩ := t
  obtain ⟨rfl, rfl⟩ := h
  exact { law with }

variable {s : State} (law : ConfigLaw s)
include law

/-! ### Line parameters -/

/-- The line parameters in their ranges, as the fields of their block (R177). -/
theorem params_fieldsHold : FieldsHold paramFields s.config.params.byte := by
  obtain ⟨_, _, _, _, _, _, _, _, _, _, _, _, _, _, _, _, _, _, _⟩ := law
  have hs := s.config.params.stationCount.isLt
  have hv := s.config.params.variantCount.isLt
  simp only [paramFields, fieldsHold_cons, fieldsHold_nil, inRange_iff, leRead, LineParams.byte,
    byteOf, and_true]
  omega

/-- Line parameters taken lie in their ranges (R177, R180). -/
theorem takeParams_configLaw (h : s.paramsTake first size data = true) :
    ConfigLaw (s.takeParams (s.formedParams first size data)) := by
  suffices hparams : ConfigLaw
      { s with config := { s.config with params := s.formedParams first size data } } from
    configLaw_congr hparams (by simp [State.takeParams])
  have hholds := fieldsHold_formed _ _ _ _ _ (params_fieldsHold law) (Bool.and_eq_true_iff.mp h).1
  simp only [paramFields, fieldsHold_cons, fieldsHold_nil, inRange_iff, leRead_one,
    and_true] at hholds
  obtain ⟨hstations, hcap, hvariants, hfilter, hslow, hlimit, hrestrict, hhalt, hrecover, hattempts,
    hwindow, hungauged, hstep, hoffset⟩ := hholds
  exact
    { law with
      stationCount := le_mod hstations.1 (Nat.lt_succ_of_le hstations.2)
      returnCap := hcap
      variantCount := le_mod hvariants.1 (Nat.lt_succ_of_le hvariants.2)
      filterMs := hfilter.2
      indexSlow := hslow
      indexLimit := hlimit
      failRestrict := hrestrict
      failHalt := hhalt
      recoverCycles := hrecover
      alignAttempts := hattempts
      alignWindow := hwindow
      ungaugedLimit := hungauged
      maxStep := hstep
      offsetLimit := hoffset }

/-! ### Station descriptors -/

/-- The codes of a role, a reader and a mode, and marks in their ranges, as the fields of their entry (R178). -/
theorem descriptor_fieldsHold (k : StationNo) :
    FieldsHold descriptorFields (s.descriptor k).byte := by
  obtain ⟨hack, hwarn, hlimit⟩ := law.marks k
  have hrole : (s.descriptor k).role.code ≤ 3 := by cases (s.descriptor k).role <;> decide
  have hreader : (s.descriptor k).byte 1 < 4 ∨ (s.descriptor k).byte 1 = 0xFF := by
    rw [Descriptor.byte]
    cases (s.descriptor k).reader with
    | none => exact .inr rfl
    | some r => exact .inl r.isLt
  have hauthority := Bool.toNat_le (s.descriptor k).authority
  have hmode : (s.descriptor k).mode.code ≤ 2 := by cases (s.descriptor k).mode <;> decide
  simp only [descriptorFields, fieldsHold_cons, fieldsHold_nil, inRange_iff, leRead_one,
    Bool.or_eq_true, decide_eq_true_eq, and_true]
  refine ⟨⟨Nat.zero_le _, hrole⟩, hreader, ⟨Nat.zero_le _, hauthority⟩, ⟨Nat.zero_le _, hmode⟩, ?_⟩
  simp only [leRead, Descriptor.byte, byteOf]
  omega

/-- A descriptor taken has its marks in their ranges (R178, R180). -/
theorem takeDescriptor_configLaw (k : StationNo) (h : s.descriptorTakes k first size data = true) :
    ConfigLaw (s.takeDescriptor k (s.formedDescriptor k first size data)) := by
  have hholds := fieldsHold_formed _ _ _ _ _ (descriptor_fieldsHold law k) h
  simp only [descriptorFields, fieldsHold_cons, fieldsHold_nil, inRange_iff, and_true] at hholds
  obtain ⟨-, -, -, -, hack, hwarn, hlimit⟩ := hholds
  refine { law with marks := fun j => ?_ }
  rw [descriptor_takeDescriptor]
  split
  · exact ⟨hack, hwarn, hlimit⟩
  · exact law.marks j

/-! ### Variant table entries -/

/-- A variant's ratio in its range, and an operate map of 28 bits, as the fields of their entry (R179). -/
theorem variant_fieldsHold (v : Fin 6) : FieldsHold variantFields (s.variantEntry v).byte := by
  have hratio := law.ratios v
  have hpasses := (s.variantEntry v).passes.isLt
  simp only [variantFields, fieldsHold_cons, fieldsHold_nil, inRange_iff, leRead, VariantEntry.byte,
    byteOf, decide_eq_true_eq, and_true]
  refine ⟨trivial, ?_⟩
  omega

/-- A variant entry taken has a code of two bytes and its ratio in its range (R179, R180). -/
theorem takeVariant_configLaw (v : Fin 6) (h : s.variantTakes v first size data = true) :
    ConfigLaw (s.takeVariant v (s.formedVariant v first size data)) := by
  have hholds := fieldsHold_formed _ _ _ _ _ (variant_fieldsHold law v) h
  simp only [variantFields, fieldsHold_cons, fieldsHold_nil, inRange_iff, leRead_one,
    decide_eq_true_eq, and_true] at hholds
  obtain ⟨-, hratio, -⟩ := hholds
  refine { law with codes := fun j => ?_, ratios := fun j => ?_ }
  · rw [variantEntry_takeVariant]
    split
    · have hlow := formBytes_lt (s.variantEntry v).byte first size data 0
        (Nat.mod_lt _ (by decide))
      have hhigh := formBytes_lt (s.variantEntry v).byte first size data 1
        (Nat.mod_lt _ (by decide))
      simp only [State.formedVariant, VariantEntry.ofBytes, leRead, Nat.zero_add, Nat.add_zero]
      omega
    · exact law.codes j
  · rw [variantEntry_takeVariant]
    split
    · exact hratio
    · exact law.ratios j

/-! ### Patch rules -/

/-- A rule taken names a word 1 to 63, and, enabled, none that another enabled rule names (R146). -/
theorem takeRule_configLaw (r : Fin 24) (h : s.ruleTakes r first size data = true) :
    ConfigLaw (s.takeRule r (s.formedRule r first size data)) := by
  obtain ⟨hfields, hunique⟩ := Bool.and_eq_true_iff.mp h
  obtain ⟨-, -, ⟨hword, hword'⟩, -⟩ := (entryTakes_ruleFields _).mp hfields
  have hapart := (ruleUnique_iff s r _).mp hunique
  refine { law with ruleWords := fun i => ?_, rulesApart := fun i j hij hi hj hsame => ?_ }
  · rw [rule_takeRule]
    split
    · exact le_mod hword (Nat.lt_succ_of_le hword')
    · exact law.ruleWords i
  · rw [rule_takeRule] at hi hsame
    rw [rule_takeRule] at hj hsame
    by_cases hri : r = i
    · have hrj : r ≠ j := hri ▸ hij
      rw [if_pos hri] at hi hsame
      rw [if_neg hrj] at hj hsame
      exact hapart hi j hrj.symm hj ⟨hsame.1.symm, hsame.2.symm⟩
    · rw [if_neg hri] at hi hsame
      by_cases hrj : r = j
      · rw [if_pos hrj] at hj hsame
        exact hapart hj i (Ne.symm hri) hi hsame
      · rw [if_neg hrj] at hj hsame
        exact law.rulesApart i j hij hi hj hsame

/-! ### Every step -/

/-- A configuration or rule write at its OK is dropped, or taken with its checks passed (R146, R168, R180). -/
theorem configAtOk_configLaw (o : Offset) (takes : Bool) (effect : State → State)
    (h : takes = true → ConfigLaw (effect s)) : ConfigLaw (s.configAtOk o takes effect) := by
  unfold State.configAtOk State.takeOrDrop
  split
  case h_1 => exact configLaw_congr law ⟨rfl, rfl⟩
  case h_2 hpass =>
    have hall := (firstFailure_eq_none _).mp hpass
    exact h (hall (takes, .badConfig) (by simp))

/-- A snooped write at its OK keeps the law: it leaves the settings, or passes its checks again (R167). -/
theorem snoopAtOk_configLaw (o : Offset) : ConfigLaw (s.snoopAtOk o size data) := by
  unfold State.snoopAtOk
  split
  · exact configLaw_congr law (gateWordAtOk_settings s _ _ _ _)
  · exact configAtOk_configLaw law _ _ _ (takeParams_configLaw _ _ _ law)
  · exact configAtOk_configLaw law _ _ _ (takeDescriptor_configLaw _ _ _ law _)
  · exact configAtOk_configLaw law _ _ _ (takeVariant_configLaw _ _ _ law _)
  · exact configAtOk_configLaw law _ _ _ (takeRule_configLaw _ _ _ law _)
  all_goals exact law

/-- The memory's OK keeps the law (R163). -/
theorem respondOk_configLaw (t : Transaction) : ConfigLaw (State.respondOk t data s) := by
  unfold State.respondOk
  split
  · exact snoopAtOk_configLaw _ _ (configLaw_congr (t := s.answer .ok) law ⟨rfl, rfl⟩) _
  all_goals exact configLaw_congr law ⟨rfl, rfl⟩

end Sys2Proof.Machine.Settings
end

section
/-! SUPPORT. What every command leaves of the settings, and the configuration law (R146, R177 to R179). -/

namespace Sys2Proof.Machine.Settings

variable {s t : State}

/-- A transaction that arrives at a free port, with the state it leaves (R161). -/
theorem ifPortFree_settings {arrived : State} (h : SameSettings arrived s)
    (hx : s.ifPortFree arrived = .next t) : SameSettings t s := by
  unfold State.ifPortFree at hx
  split at hx
  · cases hx
  · cases hx
    exact h

theorem hostWriteAddress_settings (a : Address) (size : Size) (data : Word)
    (hx : s.hostWriteAddress a size data = .next t) : SameSettings t s := by
  unfold State.hostWriteAddress at hx
  split at hx
  · exact ifPortFree_settings (arrive_settings s _) hx
  · exact ifPortFree_settings (arriveOutside_settings s _ _ _ _) hx

theorem hostReadAddress_settings (a : Address) (size : Size)
    (hx : s.hostReadAddress a size = .next t) : SameSettings t s := by
  unfold State.hostReadAddress at hx
  split at hx
  · exact ifPortFree_settings (arrive_settings s _) hx
  · exact ifPortFree_settings (arriveOutside_settings s _ _ _ _) hx

theorem hostAccess_settings (o : Offset) (access : Access) (hx : s.hostAccess o access = .next t) :
    SameSettings t s := by
  cases access <;> exact ifPortFree_settings (arrive_settings s _) hx

/-- An image response is discarded where one is owed to no one, else taken by the transaction that waits for it (R163, R165). -/
theorem onResponse_cases (act : Transaction → State) (hx : s.onResponse act = .next t) :
    t = s.discardStale ∨ ∃ r, t = act r := by
  unfold State.onResponse at hx
  split at hx
  · cases hx
    exact .inl rfl
  · split at hx
    · cases hx
      exact .inr ⟨_, rfl⟩
    · cases hx

/-- Every command but an OK of the memory and power-on reset leaves the configuration and the rules as they are. -/
theorem exec_settings (i : Instr) (hok : ∀ d, i ≠ .imageResponseOk d)
    (hreset : ∀ straps, i ≠ .powerOnReset straps) (hx : exec i s = .next t) :
    SameSettings t s := by
  cases i with
  | imageResponseOk d => exact absurd rfl (hok d)
  | powerOnReset straps => exact absurd rfl (hreset straps)
  | stationViewAccess k o access => exact hostAccess_settings _ access hx
  | rovingViewAccess o access => exact hostAccess_settings _ access hx
  | hostWriteOther a size data => exact hostWriteAddress_settings a size data hx
  | hostRead a size => exact hostReadAddress_settings a size hx
  | transactionForward =>
    cases hx
    exact forward_settings s
  | imageResponseError =>
    obtain rfl | ⟨r, rfl⟩ := onResponse_cases _ hx
    · exact ⟨rfl, rfl⟩
    · simp [State.respondError]
  | imageResponseTimeout =>
    cases hx
    exact timeOut_settings s
  | staleResponseDiscard =>
    simp only [exec, execStaleResponseDiscard] at hx
    split at hx
    · cases hx
      exact ⟨rfl, rfl⟩
    · cases hx
  | atRestFall =>
    cases hx
    exact .ite s ⟨rfl, rfl⟩ ⟨rfl, rfl⟩
  | atRestRise =>
    cases hx
    exact .ite s (by simp) ⟨rfl, rfl⟩
  | driveFaultRise =>
    cases hx
    exact .ite s (by simp) ⟨rfl, rfl⟩
  | estopActive =>
    cases hx
    simp
  | controllerResetAssert =>
    cases hx
    exact .ite s (by simp) (by simp)
  | driveFaultFall | estopInactive | controllerResetDeassert =>
    cases hx
    exact ⟨rfl, rfl⟩
  | clearInputChange k level =>
    cases hx
    exact updateClear_settings s k _
  | presenceInputChange k level =>
    cases hx
    exact ⟨rfl, rfl⟩
  | filterSettle k input =>
    cases hx
    exact settleInput_settings s k input
  | timeBaseTick =>
    have hadvanced : SameSettings s.takeDue.advance s := by simp
    exact Host.Outcome.next.inj hx ▸ hadvanced
  | indexSlowMark | indexLimitMark =>
    cases hx
    exact .ite s (takeIndexBoundary_settings s) ⟨rfl, rfl⟩
  | ackMark k | warnMark k | limitMark k =>
    cases hx
    exact .ite s (takeUnitBoundary_settings s k) ⟨rfl, rfl⟩
  | alignWindowExpiry =>
    cases hx
    exact takeAlignBoundary_settings s
  | _ => exact ifPortFree_settings (arrive_settings s _) hx

/-- The power-on configuration lies in its ranges, and no rule is enabled (R145, R177 to R179). -/
theorem reset_configLaw : ConfigLaw State.reset where
  stationCount := by decide
  returnCap := by decide
  variantCount := by decide
  filterMs := by decide
  indexSlow := by decide
  indexLimit := by decide
  failRestrict := by decide
  failHalt := by decide
  recoverCycles := by decide
  alignAttempts := by decide
  alignWindow := by decide
  ungaugedLimit := by decide
  maxStep := by decide
  offsetLimit := by decide
  marks := by decide
  codes := by decide
  ratios := by decide
  ruleWords := by decide
  rulesApart := fun i j _ hi => by
    have hoff : ∀ r, (State.reset.rule r).enabled = false := by decide
    rw [hoff i] at hi
    cases hi

/-- Every command keeps the law: the settings change at an OK of the memory and at power-on reset alone. -/
theorem exec_configLaw (law : ConfigLaw s) (i : Instr) (hx : exec i s = .next t) :
    ConfigLaw t := by
  cases i with
  | imageResponseOk d =>
    obtain rfl | ⟨r, rfl⟩ := onResponse_cases _ hx
    · exact configLaw_congr law ⟨rfl, rfl⟩
    · exact respondOk_configLaw d law r
  | powerOnReset straps =>
    cases hx
    exact configLaw_congr reset_configLaw (by simp)
  | _ => exact configLaw_congr law (exec_settings _ (by simp) (by simp) hx)

/-- Settles O57: an idle step changes nothing, and every command keeps the law. -/
theorem configLawKept : Obligations.ConfigLawKept := by
  intro s t law hx
  unfold step at hx
  split at hx
  case h_1 =>
    cases hx
    exact law
  case h_2 i rest _ =>
    exact exec_configLaw (configLaw_congr (t := s.withPending rest) law ⟨rfl, rfl⟩) i hx

end Sys2Proof.Machine.Settings
end

section
/-! SUPPORT. Writes of the rule table: the rule as formed, its checks, and what becomes of the write (R142, R146). -/

namespace Sys2Proof.Machine.Patching

open Settings

/-! ### The bytes of a rule -/

theorem width_code_ofCode (n : Nat) (h : n ≤ 2) : (Width.ofCode n).code = n := by
  revert n
  decide

theorem op_code_ofCode (n : Nat) (h : n ≤ 6) : (PatchOp.ofCode n).code = n := by
  revert n
  decide

/-- The enable, trap and signedness bits of byte 0 (R142). -/
theorem ruleBits_toNat (n : Nat) (h : n < 8) :
    (decide (n % 2 = 1)).toNat + 2 * (decide (n / 2 % 2 = 1)).toNat +
      4 * (!decide (n / 4 % 2 = 0)).toNat = n := by
  revert n
  decide

/-- A rule taken from bytes that hold its values shows those bytes (R142, R146). -/
theorem byte_ofBytes (b : Nat → Nat) (hfields : entryTakes ruleFields b 0 8 = true)
    (hbeyond : ∀ i, 8 ≤ i → b i = 0) (i : Nat) : (PatchRule.ofBytes b).byte i = b i := by
  obtain ⟨hbits, hstation, ⟨-, hword⟩, hwidth, hop, h5, h6, h7⟩ :=
    (entryTakes_ruleFields b).mp hfields
  match i with
  | 0 => exact ruleBits_toNat (b 0) hbits
  | 1 => exact Nat.mod_eq_of_lt (Nat.lt_succ_of_le hstation)
  | 2 => exact Nat.mod_eq_of_lt (Nat.lt_succ_of_le hword)
  | 3 => exact width_code_ofCode (b 3) hwidth
  | 4 => exact op_code_ofCode (b 4) hop
  | 5 => exact h5.symm
  | 6 => exact h6.symm
  | 7 => exact h7.symm
  | i + 8 => exact (hbeyond (i + 8) (Nat.le_add_left 8 i)).symm

variable (s : State) (r : Fin 24) (first : Nat) (size : Size) (w : Word)

/-- Another enabled rule names the station and word of the bytes, whose rule is enabled (R146, 3). -/
def NamedAgain (b : Nat → Nat) : Prop :=
  b 0 % 2 = 1 ∧ ∃ j, j ≠ r ∧ (s.rule j).enabled = true ∧
    (s.rule j).station.val = b 1 ∧ (s.rule j).word.val = b 2

/-- With its station and word in range, a rule taken from bytes is alone on its word exactly when none names it again (R146, 3). -/
theorem ruleUnique_ofBytes (b : Nat → Nat) (hstation : b 1 ≤ 27) (hword : b 2 ≤ 63) :
    s.ruleUnique r (.ofBytes b) = true ↔ ¬NamedAgain s r b := by
  have hs : b 1 % 28 = b 1 := Nat.mod_eq_of_lt (Nat.lt_succ_of_le hstation)
  have hw : b 2 % 64 = b 2 := Nat.mod_eq_of_lt (Nat.lt_succ_of_le hword)
  simp [ruleUnique_iff, PatchRule.ofBytes, NamedAgain, Fin.ext_iff, hs, hw]

/-- The checks of a rule write, over the whole rule as formed (R142, R146). -/
theorem ruleTakes_iff :
    let formed := formBytes (s.rule r).byte first size w
    s.ruleTakes r first size w = true ↔
      formed 0 < 8 ∧ formed 1 ≤ 27 ∧ 1 ≤ formed 2 ∧ formed 2 ≤ 63 ∧ formed 3 ≤ 2 ∧
        formed 4 ≤ 6 ∧ formed 5 = 0 ∧ formed 6 = 0 ∧ formed 7 = 0 ∧ ¬NamedAgain s r formed := by
  intro formed
  rw [State.ruleTakes, Bool.and_eq_true, entryTakes_ruleFields]
  constructor
  · rintro ⟨⟨hbits, hstation, ⟨hword, hword'⟩, hwidth, hop, h5, h6, h7⟩, hunique⟩
    exact ⟨hbits, hstation, hword, hword', hwidth, hop, h5, h6, h7,
      (ruleUnique_ofBytes s r formed hstation hword').mp hunique⟩
  · rintro ⟨hbits, hstation, hword, hword', hwidth, hop, h5, h6, h7, halone⟩
    exact ⟨⟨hbits, hstation, ⟨hword, hword'⟩, hwidth, hop, h5, h6, h7⟩,
      (ruleUnique_ofBytes s r formed hstation hword').mpr halone⟩

/-- The rule taken shows the bytes as formed, of a write that stays inside the entry (R146). -/
theorem formedRule_byte (hinside : first + size.bytes ≤ 8)
    (h : s.ruleTakes r first size w = true) (i : Nat) :
    (s.formedRule r first size w).byte i = formBytes (s.rule r).byte first size w i := by
  refine byte_ofBytes _ (Bool.and_eq_true_iff.mp h).1 (fun j hj => ?_) i
  obtain ⟨j, rfl⟩ := Nat.exists_eq_add_of_le' hj
  exact if_neg (by omega)

/-! ### The write -/

/-- A snooped write whose checks pass again is taken (R167). -/
theorem takeOrDrop_taken (o : Offset) (checks : List (Bool × Cause)) (effect : State → State)
    (h : firstFailure checks = none) : s.takeOrDrop o checks effect = effect s := by
  rw [State.takeOrDrop, h]

variable (o : Offset) (hlow : 0x700 + r.val * 8 ≤ o.toNat) (hhigh : o.toNat < 0x700 + r.val * 8 + 8)
include hlow hhigh

/-- An offset of a rule entry falls in its window (R158). -/
theorem windowOf_ruleEntry : windowOf o = .rule r := by
  have h := windowOf_rule o.toNat r hlow hhigh
  rwa [BitVec.ofNat_toNat, BitVec.setWidth_eq] at h

/-- A place within a rule entry. -/
theorem ruleEntry_mod : (o.toNat - 0x700) % 8 = o.toNat - (0x700 + r.val * 8) := by omega

/-- What the part decides of an aligned write to a rule entry: SETUP, then the rule's checks (R146). -/
theorem decide_ruleWrite (ha : o.toNat % size.bytes = 0) :
    s.decide ⟨.write, o, size, w⟩ =
      .after
        [(s.lineIn [.setup], .notInState),
          (s.ruleTakes r (o.toNat - (0x700 + r.val * 8)) size w, .badConfig)]
        (fun _ => .none) (.forward .snoop o w) := by
  simp [State.decide, ha, State.decideWrite, windowOf_ruleEntry r o hlow hhigh, State.decideConfig,
    ruleEntry_mod r o hlow hhigh, Request.forwardAs]

/-- A rule write whose checks pass takes the rule as formed at the OK (R146, R167). -/
theorem completes_ruleWrite (data d : Word) (hfree : s.portsFree) (ha : o.toNat % size.bytes = 0)
    (hsetup : s.line.state = .setup)
    (ht : s.ruleTakes r (o.toNat - (0x700 + r.val * 8)) size (data &&& size.mask) = true) :
    Completes (.patchRuleWrite o size data) d s
      ((s.answered .ok).takeRule r
        (s.formedRule r (o.toNat - (0x700 + r.val * 8)) size (data &&& size.mask))) := by
  have hpass : firstFailure [(s.lineIn [.setup], Cause.notInState),
      (s.ruleTakes r (o.toNat - (0x700 + r.val * 8)) size (data &&& size.mask), .badConfig)] =
        none := by
    simp [firstFailure, State.lineIn, hsetup, ht]
  have h := completes_snoop s (.patchRuleWrite o size data)
    ⟨.write, o, size, data &&& size.mask⟩ d rfl rfl hfree rfl
    (by rw [decide_ruleWrite s r size _ o hlow hhigh ha, Decision.after, hpass])
  have hsnoop : (s.answered .ok).snoopAtOk o size (data &&& size.mask) =
      (s.answered .ok).takeRule r
        (s.formedRule r (o.toNat - (0x700 + r.val * 8)) size (data &&& size.mask)) := by
    simp only [State.snoopAtOk, windowOf_ruleEntry r o hlow hhigh, ruleEntry_mod r o hlow hhigh]
    exact takeOrDrop_taken (s.answered .ok) o _ _ hpass
  exact hsnoop ▸ h

omit hlow hhigh in
/-- Settles O36: the checks of the rule as formed, then alignment, SETUP and those checks in the order of the write. -/
theorem patchRuleWritten : Obligations.PatchRuleWritten := by
  intro s r o size data d hfree hlow hhigh i w first formed again
  have hiff := ruleTakes_iff s r first size w
  have hrefused (cause : Cause) (hp : cause ≠ .patchOverflow)
      (hd : s.decide ⟨.write, o, size, w⟩ = .refuse cause .none) :
      exec i s = .next (s.refusedWrite o cause .none) :=
    Stations.write_refused s i o size data cause .none rfl hfree.1 hd hp
  refine ⟨fun hagain => ?_, hiff, ?_⟩
  · refine Bool.eq_false_iff.mpr fun ht => ?_
    obtain ⟨-, -, -, -, -, -, -, -, -, halone⟩ := hiff.mp ht
    exact halone hagain
  split
  case isTrue ha => exact hrefused _ (by decide) (Stations.decide_misaligned s _ ha)
  case isFalse ha =>
    have ha : o.toNat % size.bytes = 0 := Decidable.not_not.mp ha
    have hd := decide_ruleWrite s r size w o hlow hhigh ha
    split
    case isTrue hs =>
      exact hrefused _ (by decide)
        (hd.trans (by simp [Decision.after, firstFailure, State.lineIn, hs]))
    case isFalse hs =>
      have hs : s.line.state = .setup := Decidable.not_not.mp hs
      split
      case isTrue ht =>
        exact hrefused _ (by decide)
          (hd.trans (by simp [Decision.after, firstFailure, State.lineIn, hs, ht, first]))
      case isFalse ht =>
        have ht : s.ruleTakes r first size w = true := by simpa using ht
        have hinside : first + size.bytes ≤ 8 := by
          cases size <;> simp only [Size.bytes, first] at ha ⊢ <;> omega
        exact ⟨s.formedRule r first size w, formedRule_byte s r first size w hinside ht,
          completes_ruleWrite s r size o hlow hhigh data d hfree ha hs ht⟩

end Sys2Proof.Machine.Patching
end

section
/-! SUPPORT. The field of a patched write: its value, its range, and the result reduced into it (R143, R150 to R153). -/

namespace Sys2Proof.Machine.Patching

variable (rule : PatchRule) (w : Word) (result : Int)

/-- The power of a width is twice its half (R143). -/
theorem pow_width (width : Width) : (2 : Int) ^ width.bits = 2 * 2 ^ (width.bits - 1) := by
  cases width <;> rfl

/-- A balanced remainder by the power of a width, written out: a remainder in the upper half has the power taken off. -/
theorem bmod_width (x : Int) (width : Width) :
    Int.bmod x (2 ^ width.bits) =
      if (2 : Int) ^ (width.bits - 1) ≤ x % 2 ^ width.bits then x % 2 ^ width.bits - 2 ^ width.bits
      else x % 2 ^ width.bits := by
  have hwhole : ((2 ^ width.bits : Nat) : Int) = 2 ^ width.bits := by push_cast; rfl
  have hhalf : ((2 : Int) ^ width.bits + 1) / 2 = 2 ^ (width.bits - 1) := by
    rw [pow_width]
    omega
  simp only [Int.bmod, hwhole, hhalf]
  by_cases hupper : (2 : Int) ^ (width.bits - 1) ≤ x % 2 ^ width.bits
  · rw [if_pos hupper, if_neg (Int.not_lt.mpr hupper)]
  · rw [if_neg hupper, if_pos (Int.not_le.mp hupper)]

/-- The field's value: the written bits, less the power of the width where the rule is signed and they lie in the upper half (R150, 1). -/
theorem value_eq :
    rule.value w =
      if rule.signed = true ∧
          (2 : Int) ^ (rule.width.bits - 1) ≤ (w.toNat % 2 ^ rule.width.bits : Nat) then
        ((w.toNat % 2 ^ rule.width.bits : Nat) : Int) - 2 ^ rule.width.bits
      else (w.toNat % 2 ^ rule.width.bits : Nat) := by
  have hfield : ((w.toNat % 2 ^ rule.width.bits : Nat) : Int) % 2 ^ rule.width.bits =
      (w.toNat % 2 ^ rule.width.bits : Nat) := by
    push_cast
    exact Int.emod_emod _ _
  rw [PatchRule.value]
  cases rule.signed with
  | false => simp
  | true => simp only [bmod_width, hfield, if_true, true_and]

/-- The lowest value of the rule's field (R143). -/
def fieldLow : Int := if rule.signed then -2 ^ (rule.width.bits - 1) else 0

/-- The highest value of the rule's field (R143). -/
def fieldHigh : Int :=
  if rule.signed then 2 ^ (rule.width.bits - 1) - 1 else 2 ^ rule.width.bits - 1

/-- A result fits that lies in the field's range (R151). -/
theorem fits_iff : rule.fits result = true ↔ fieldLow rule ≤ result ∧ result ≤ fieldHigh rule := by
  unfold PatchRule.fits fieldLow fieldHigh
  split <;> simp only [Bool.and_eq_true, decide_eq_true_eq] <;> omega

/-- The result reduced lies in the field's range (R153). -/
theorem reduce_range :
    fieldLow rule ≤ rule.reduce result ∧ rule.reduce result ≤ fieldHigh rule := by
  have hpow := pow_width rule.width
  have hpos : (0 : Int) < 2 ^ rule.width.bits := Int.pow_pos (by decide)
  have hnonneg : 0 ≤ result % 2 ^ rule.width.bits := Int.emod_nonneg _ (Int.ne_of_gt hpos)
  have hlt : result % 2 ^ rule.width.bits < 2 ^ rule.width.bits := Int.emod_lt_of_pos _ hpos
  unfold PatchRule.reduce fieldLow fieldHigh
  rw [bmod_width]
  split
  case isTrue => split <;> omega
  case isFalse => omega

/-- The result is reduced by a whole multiple of the power of the width (R153). -/
theorem reduce_congr : (result - rule.reduce result) % 2 ^ rule.width.bits = 0 := by
  apply Int.emod_eq_emod_iff_emod_sub_eq_zero.mp
  unfold PatchRule.reduce
  split
  · exact_mod_cast (Int.bmod_emod (x := result) (m := 2 ^ rule.width.bits)).symm
  · exact (Int.emod_emod _ _).symm

end Sys2Proof.Machine.Patching
end

section
/-! SUPPORT. What the part decides of a patched write, and its answer (R148, R149, R151 to R154). -/

namespace Sys2Proof.Machine.Patching

variable (s : State) (k : StationNo) (n : Fin 64) (lane : Fin 4) (size : Size) (r : Fin 24)

/-- The one rule that names a word is the rule of the word (R148). -/
theorem ruleFor_eq_some (h : ∀ j, (s.rule j).names k n.val = true ↔ j = r) :
    s.ruleFor k n.val = some (s.rule r) := by
  rw [State.ruleFor, List.find?_eq_some_iff_getElem]
  refine ⟨(h r).mpr rfl, r.val, by simp, by simp [State.rule], fun j hj => ?_⟩
  have hne : ¬(s.rule ⟨j, Nat.lt_trans hj r.isLt⟩).names k n.val = true := fun hnames =>
    Nat.ne_of_lt hj (congrArg Fin.val ((h _).mp hnames))
  simpa [State.rule] using hne

/-- A write covers the field that begins at the word's address and is no wider (R149, 2). -/
theorem covered_iff (rule : PatchRule) :
    rule.covered (commandOffset k n.val lane.val) size = true ↔
      ¬(lane ≠ 0 ∨ 8 * size.bytes < rule.width.bits) := by
  have hlane : (commandOffset k n.val lane.val).toNat % 4 = lane.val := by
    rw [toNat_commandOffset k n.val lane.val n.isLt lane.isLt]
    omega
  have hbits : rule.width.bits = 8 * rule.width.bytes := by cases rule.width <;> rfl
  rw [PatchRule.covered, hlane, hbits, Bool.and_eq_true, decide_eq_true_eq, decide_eq_true_eq,
    not_or, Decidable.not_not, Fin.ext_iff, Fin.val_zero]
  omega

/-- No check of a patched write refuses with PATCH_OVERFLOW, which alone has an effect beyond its report. -/
theorem patchChecks_cause (rule : PatchRule) (o : Offset) (cause : Cause)
    (h : firstFailure (s.patchChecks rule k o size) = some cause) : cause ≠ .patchOverflow := by
  rintro rfl
  simp only [State.patchChecks, firstFailure] at h
  repeat' split at h
  all_goals cases h

variable (data : Word)

/-- The answer to a patched write: the refusal of a check of R149, or what is decided for the pallet of the entry (R149, R150). -/
def PatchedAnswer : Option Cause → Prop
  | some cause =>
    exec (.patchedWrite k n lane size data) s =
      .next (s.refusedWrite (commandOffset k n.val lane.val) cause (s.placeAt k))
  | none =>
    ∀ p, (s.entry k).pallet = some p →
      s.decide ⟨.write, commandOffset k n.val lane.val, size, data &&& size.mask⟩ =
        s.decidePatched ⟨.write, commandOffset k n.val lane.val, size, data &&& size.mask⟩ k
          (s.rule r) p

/-- An aligned write of a word that one rule names meets R149's checks (R148, R149). -/
theorem patched_answer (hfree : s.portsFree) (hk : s.inLine k = true) (hn : n ≠ 0)
    (hnames : ∀ j, (s.rule j).names k n.val = true ↔ j = r) (ha : lane.val % size.bytes = 0) :
    PatchedAnswer s k n lane size r data
      (firstFailure
        (s.patchChecks (s.rule r) k (commandOffset k n.val lane.val) size)) := by
  have hd := Stations.decide_commandWrite s k n lane size (data &&& size.mask) ha
  rw [if_pos hk, if_neg fun h : n.val = 0 => hn (Fin.ext h), State.decideCommandWord,
    Stations.commandOffset_word, ruleFor_eq_some s k n r hnames] at hd
  simp only [Decision.after] at hd
  cases hf : firstFailure (s.patchChecks (s.rule r) k (commandOffset k n.val lane.val) size) with
  | some cause =>
    rw [hf] at hd
    exact Stations.write_refused s _ _ size data cause _ rfl hfree.1 hd
      (patchChecks_cause s k size _ _ cause hf)
  | none =>
    intro p hp
    rw [hf, hp] at hd
    exact hd

/-- Settles O37: alignment, R149's checks in order, then the result refused by trap on or forwarded reduced. -/
theorem patchedWrite : Obligations.PatchedWrite := by
  intro s k n lane size data d r hfree hk hn hnames rule i o place w width half whole low high field
    value
  split
  case isTrue ha =>
    have hmis : o.toNat % size.bytes ≠ 0 := Stations.commandOffset_mod_bytes k n lane size ▸ ha
    exact Stations.write_refused s i o size data _ _ rfl hfree.1
      (Stations.decide_misaligned s _ hmis) (by decide)
  case isFalse ha =>
    have hanswer := patched_answer s k n lane size r data hfree hk hn hnames
      (Decidable.not_not.mp ha)
    refine Stations.ite_of_firstFailure hanswer (by simp [State.indexing]) id fun h => ?_
    refine Stations.ite_of_firstFailure h (covered_iff k n lane size rule) id fun h => ?_
    refine Stations.ite_of_firstFailure h (by simp [MapEntry.occupied, Option.isSome_iff_ne_none])
      id fun h => ?_
    refine Stations.ite_of_firstFailure h (by simp) id fun h => ?_
    intro p hp offset ratio result fits
    have hresult : s.patchResult rule p w = result := by
      rw [State.patchResult, value_eq]
      rfl
    have hfits : (!rule.fits result) = decide ¬fits := by
      rw [Bool.eq_iff_iff, Bool.not_eq_true', ← Bool.not_eq_true, fits_iff, decide_eq_true_eq]
      rfl
    have hd := h p hp
    simp only [State.decidePatched] at hd
    rw [hresult, hfits] at hd
    split
    case isTrue htrap =>
      rw [if_pos (by simpa using htrap)] at hd
      exact arrive_refuse s _ .patchOverflow place hfree.1 hd
    case isFalse htrap =>
      rw [if_neg (by simpa using htrap)] at hd
      obtain ⟨hlow, hhigh⟩ := reduce_range rule result
      exact ⟨rule.reduce result, hlow, hhigh, reduce_congr rule result,
        carriedOut_patch s i ⟨.write, o, size, w⟩ _ _ d rfl hfree rfl hd⟩

end Sys2Proof.Machine.Patching
end

section
/-! SUPPORT. A refusal and what it leaves (R159, R190, R191). -/

namespace Sys2Proof.Machine.PassThrough

variable (s : State)

/-- The flag word after a refusal: REFUSED set, and REPORT_OVERRUN where REFUSED stood (R191). -/
def refusedFlags : BitVec 22 :=
  if s.hasFlag .refused then ((s.raise .reportOverrun).raise .refused).flagUnit.flags
  else (s.raise .refused).flagUnit.flags

/-- A refusal, block by block: the port answers ERROR, and the flag and report unit takes the flags, the report and the count (R159, R190, R191). -/
theorem refuse_eq (kind : Kind) (outside : Bool) (o : Offset) (cause : Cause) (place : Place) :
    s.refuse kind outside o cause place =
      { s with
        classifier :=
          { s.classifier with
            record := none, timer := { s.classifier.timer with running := false },
            reply := .error }
        flagUnit :=
          { flags := refusedFlags s
            enables := s.flagUnit.enables
            report :=
              { cause := cause, kind := kind, outside := outside, offset := o,
                station := place.station, pallet := place.pallet, cycle := s.line.cycle }
            refusals := saturate Config.countMax s.flagUnit.refusals } } := by
  unfold State.refuse State.recordRefusal refusedFlags
  cases s.hasFlag .refused <;> rfl

/-- The flags after a refusal, one by one: all but REFUSED and REPORT_OVERRUN as they were (R191). -/
theorem hasFlag_refuse (kind : Kind) (outside : Bool) (o : Offset) (cause : Cause) (place : Place)
    (f : Flag) :
    (s.refuse kind outside o cause place).hasFlag f =
      (s.hasFlag f || (s.hasFlag .refused && Flag.reportOverrun == f) || Flag.refused == f) := by
  rw [refuse_eq]
  show (refusedFlags s).getLsbD f.bit = _
  unfold refusedFlags
  split
  case isTrue h =>
    show ((s.raise .reportOverrun).raise .refused).hasFlag f = _
    simp [h]
  case isFalse h =>
    show (s.raise .refused).hasFlag f = _
    simp [h]

/-- Settles O3: the flags one by one, every other field as the refusal leaves it. -/
theorem refusalRecorded : Obligations.RefusalRecorded := by
  intro s kind outside o cause place
  have hflags := hasFlag_refuse s kind outside o cause place
  refine ⟨by rw [refuse_eq], by rw [refuse_eq]; rfl, by simp [hflags], by simp [hflags],
    fun f hrefused hoverrun => ?_, by rw [refuse_eq], by rw [refuse_eq], by rw [refuse_eq]⟩
  simp [hflags, beq_false_of_ne hrefused.symm, beq_false_of_ne hoverrun.symm]

end Sys2Proof.Machine.PassThrough
end

section
/-! SUPPORT. A port that is not free: what a host command brings to it, and what becomes of the command while a transaction is in progress or a response is owed (R159, R161, R163, R165). -/

namespace Sys2Proof.Machine.PassThrough

variable (s : State)

/-! ### What a host command brings to the port -/

/-- The command is the arrival of one request inside the line image, whatever the state of a part with this base (R159). -/
def ArrivesInside (i : Instr) (base : BitVec 16) : Prop :=
  ∃ q : Request, ∀ t : State, t.classifier.base = base → exec i t = t.ifPortFree (t.arrive q)

/-- The command is the arrival of one transaction outside the line image, whatever the state of a part with this base (R157). -/
def ArrivesOutside (i : Instr) (base : BitVec 16) : Prop :=
  ∃ (kind : Kind) (a : Address) (size : Size) (data : Word), ∀ t : State,
    t.classifier.base = base → exec i t = t.ifPortFree (t.arriveOutside kind a size data)

/-- Whether an address lies inside the line image hangs on the base alone (R157). -/
theorem insideImage_congr {t : State} (a : Address) (h : t.classifier.base = s.classifier.base) :
    t.insideImage a = s.insideImage a := by
  rw [State.insideImage, State.insideImage, h]

/-- An access at a bus address arrives inside the line image or outside it (R157). -/
theorem arrives_address (i : Instr) (kind : Kind) (a : Address) (size : Size) (data : Word)
    (hx : ∀ t, exec i t =
      if t.insideImage a then t.ifPortFree (t.arrive ⟨kind, offsetOf a, size, data⟩)
      else t.ifPortFree (t.arriveOutside kind a size data)) :
    ArrivesInside i s.classifier.base ∨ ArrivesOutside i s.classifier.base := by
  cases ha : s.insideImage a with
  | true =>
    refine .inl ⟨⟨kind, offsetOf a, size, data⟩, fun t ht => ?_⟩
    rw [hx, insideImage_congr s a ht, ha, if_pos rfl]
  | false =>
    refine .inr ⟨kind, a, size, data, fun t ht => ?_⟩
    rw [hx, insideImage_congr s a ht, ha, if_neg Bool.false_ne_true]

/-- Every host command is an arrival, inside the line image or outside it (R157, R159). -/
theorem hostCommand_arrives (i : Instr) (h : hostCommand i = true) :
    ArrivesInside i s.classifier.base ∨ ArrivesOutside i s.classifier.base := by
  cases i with
  | hostWriteOther a size data =>
    exact arrives_address s _ .write a size (data &&& size.mask) fun _ => rfl
  | hostRead a size => exact arrives_address s _ .read a size 0 fun _ => rfl
  | stationViewAccess k o access => cases access <;> exact .inl ⟨_, fun _ _ => rfl⟩
  | rovingViewAccess o access => cases access <;> exact .inl ⟨_, fun _ _ => rfl⟩
  | transactionForward | imageResponseOk | imageResponseError | imageResponseTimeout
  | staleResponseDiscard => cases h
  | atRestFall | atRestRise | driveFaultRise | driveFaultFall | estopActive | estopInactive
  | controllerResetAssert | controllerResetDeassert | powerOnReset => cases h
  | clearInputChange | presenceInputChange | filterSettle => cases h
  | timeBaseTick | indexSlowMark | indexLimitMark | ackMark | warnMark | limitMark
  | alignWindowExpiry => cases h
  | _ => exact .inl ⟨_, fun _ _ => rfl⟩

/-- A host command at a port with a transaction in progress stops by name (R161; log 4). -/
theorem hostCommand_busy (i : Instr) (h : hostCommand i = true)
    (hrec : s.classifier.record ≠ none) : exec i s = .fault .hostPortBusy := by
  have hbusy (next : State) : s.ifPortFree next = .fault .hostPortBusy :=
    if_pos (Option.isSome_iff_ne_none.mpr hrec)
  rcases hostCommand_arrives s i h with ⟨q, hx⟩ | ⟨kind, a, size, data, hx⟩
  · rw [hx s rfl, hbusy]
  · rw [hx s rfl, hbusy]

/-! ### A response that is owed -/

/-- The state with a response of the memory still owed (R165). -/
def owing : State := { s with classifier := { s.classifier with stale := true } }

/-- The owed response discarded, and owed again. -/
theorem owing_discardStale (h : s.classifier.stale = true) : owing s.discardStale = s := by
  obtain ⟨⟨_, _, _, _, _, _, _⟩, _, _, _, _, _, _, _, _, _, _, _⟩ := s
  cases h
  rfl

/-- What the part decides of a request does not hang on a response that is owed. -/
theorem decide_discardStale (q : Request) : s.discardStale.decide q = s.decide q := rfl

/-- A refusal does not look at a response that is owed, and leaves it owed. -/
theorem refuse_owing (kind : Kind) (outside : Bool) (o : Offset) (cause : Cause) (place : Place) :
    (owing s).refuse kind outside o cause place = owing (s.refuse kind outside o cause place) := by
  rw [refuse_eq, refuse_eq]
  rfl

/-- Nor does a refusal at arrival, with the flag and fault of a patch overflow (R154). -/
theorem refuseArrival_owing (kind : Kind) (o : Offset) (cause : Cause) (place : Place) :
    (owing s).refuseArrival kind o cause place = owing (s.refuseArrival kind o cause place) := by
  unfold State.refuseArrival
  split
  · exact refuse_owing ((s.addFault .patchOverflow).raise .patchOverflow) kind false o cause place
  · exact refuse_owing s kind false o cause place

/-- A refusal at arrival that is its report alone stays so while a response is owed. -/
theorem refuseArrival_stale (hs : s.classifier.stale = true) {kind kind' : Kind} {o o' : Offset}
    {cause cause' : Cause} {place place' : Place}
    (h : s.discardStale.refuseArrival kind o cause place =
      s.discardStale.refuse kind' false o' cause' place') :
    s.refuseArrival kind o cause place = s.refuse kind' false o' cause' place' := by
  have howing := congrArg owing h
  rwa [← refuseArrival_owing, ← refuse_owing, owing_discardStale s hs] at howing

/-- A transaction that stands ARRIVED is not one that is refused. -/
theorem holdRecord_ne_refuse (t : State) (r : Transaction) (kind : Kind) (outside : Bool)
    (o : Offset) (cause : Cause) (place : Place) :
    s.holdRecord r ≠ t.refuse kind outside o cause place := fun h =>
  nomatch congrArg (fun u => u.classifier.reply) h

/-- A transaction that would stand ARRIVED at a free image port ends in IMAGE_ERROR while a response is owed; one that would be refused is refused the same (R159, R165). -/
def EndsWhileOwed (i : Instr) : Prop :=
  (∃ r : Transaction, exec i s.discardStale = .next (s.discardStale.holdRecord r) ∧
      exec i s = .next (s.imageError r.kind r.outside r.offset)) ∨
    ∃ (kind : Kind) (o : Offset) (cause : Cause) (place : Place),
      exec i s.discardStale = .next (s.discardStale.refuseArrival kind o cause place) ∧
        exec i s = .next (s.refuseArrival kind o cause place)

/-- The record of a transaction outside the line image (R157). -/
def outsideRecord (kind : Kind) (a : Address) (size : Size) (data : Word) : Transaction :=
  { kind := kind, address := a, outside := true, size := size, data := data, treatment := .pass,
    target := a, sent := data, decidedCause := none, stage := .arrived }

/-- A transaction outside the line image stands ARRIVED, or ends in IMAGE_ERROR while a response is owed (R157, R165). -/
theorem arriveOutside_eq (kind : Kind) (a : Address) (size : Size) (data : Word)
    (hrec : s.classifier.record = none) :
    s.ifPortFree (s.arriveOutside kind a size data) =
      .next
        (if s.classifier.stale then s.imageError kind true (offsetOf a)
        else s.holdRecord (outsideRecord kind a size data)) := by
  rw [State.ifPortFree, hrec]
  rfl

/-- A transaction inside the line image that is not refused ends in IMAGE_ERROR while a response is owed (R159, R165). -/
theorem arrive_owed (q : Request) (treatment : Treatment) (target : Offset) (sent : Word)
    (hrec : s.classifier.record = none) (hs : s.classifier.stale = true)
    (hd : s.decide q = .forward treatment target sent) :
    s.ifPortFree (s.arrive q) = .next (s.imageError q.kind false q.offset) := by
  simp [State.ifPortFree, hrec, State.arrive, hd, hs]

/-- What becomes of a host command while a response is owed, by what becomes of it once the response is discarded (R159, R165). -/
theorem hostCommand_owed (i : Instr) (h : hostCommand i = true)
    (hrec : s.classifier.record = none) (hs : s.classifier.stale = true) : EndsWhileOwed s i := by
  rcases hostCommand_arrives s i h with ⟨q, hx⟩ | ⟨kind, a, size, data, hx⟩
  · have hfreed := hx s.discardStale rfl
    have howed := hx s rfl
    have hsame := decide_discardStale s q
    cases hd : s.decide q with
    | refuse cause place =>
      exact .inr ⟨q.kind, q.offset, cause, place,
        hfreed.trans (arrive_refuse s.discardStale q cause place hrec (hsame.trans hd)),
        howed.trans (arrive_refuse s q cause place hrec hd)⟩
    | forward treatment target sent =>
      refine .inl ⟨s.arrivedRecord q treatment target sent,
        hfreed.trans
          (arrive_forward s.discardStale q treatment target sent ⟨hrec, rfl⟩ (hsame.trans hd)), ?_⟩
      rw [howed, arrive_owed s q treatment target sent hrec hs hd, Transaction.offset,
        State.arrivedRecord, offsetOf_addressOf]
  · have hfreed := (hx s.discardStale rfl).trans
      (arriveOutside_eq s.discardStale kind a size data hrec)
    have howed := (hx s rfl).trans (arriveOutside_eq s kind a size data hrec)
    rw [if_pos hs] at howed
    exact .inl ⟨outsideRecord kind a size data, hfreed, howed⟩

/-- A response stops by name while no transaction has been forwarded and none is owed (log 5). -/
theorem onResponse_notOwed (hs : s.classifier.stale = false)
    (h : ∀ t, s.classifier.record = some t → t.stage = .arrived) (act : Transaction → State) :
    s.onResponse act = .fault .responseNotOwed := by
  have hnone : s.forwarded = none := by
    rw [State.forwarded, Option.filter_eq_none_iff]
    intro t ht
    simp [h t ht]
  simp [State.onResponse, hs, hnone]

/-- A response while one is owed is the owed one, and is discarded (R165; log 7). -/
theorem onResponse_stale (hs : s.classifier.stale = true) (act : Transaction → State) :
    s.onResponse act = .next s.discardStale :=
  if_pos hs

/-- Settles O44: the port in progress, the response that nobody waits for, and the response that is owed. -/
theorem portNotFree : Obligations.PortNotFree := by
  refine ⟨fun i s hi hrec => hostCommand_busy s i hi hrec, fun s d hs => ⟨?_, fun h => ?_⟩,
    fun s i r d hs => ⟨fun hi hrec hx => ?_, fun hi hrec kind o cause place hx => ?_, ?_, ?_, ?_⟩⟩
  · exact if_neg (by simp [hs])
  · exact ⟨onResponse_notOwed s hs h _, onResponse_notOwed s hs h _⟩
  · rcases hostCommand_owed s i hi hrec hs with ⟨r', hfreed, howed⟩ | ⟨_, _, _, _, hfreed, -⟩
    · have hheld := Host.Outcome.next.inj (hx.symm.trans hfreed)
      obtain rfl : r = r' :=
        Option.some.inj (congrArg (fun t : State => t.classifier.record) hheld)
      rw [howed, Stations.imageError_eq]
    · exact absurd (Host.Outcome.next.inj (hx.symm.trans hfreed))
        (holdRecord_ne_refuse _ _ _ _ _ _ _ _)
  · rcases hostCommand_owed s i hi hrec hs with ⟨r', hfreed, -⟩ | ⟨_, _, _, _, hfreed, howed⟩
    · exact absurd (Host.Outcome.next.inj (hfreed.symm.trans hx))
        (holdRecord_ne_refuse _ _ _ _ _ _ _ _)
    · rw [howed, refuseArrival_stale s hs (Host.Outcome.next.inj (hfreed.symm.trans hx))]
  · exact if_pos hs
  · exact onResponse_stale s hs _
  · exact onResponse_stale s hs _

end Sys2Proof.Machine.PassThrough
end

section
/-! SUPPORT. Writes of the words of the gate control block that need no 4-byte access: the bytes written, at any byte lane (R160, R172, R188). -/

namespace Sys2Proof.Machine.PassThrough

variable (s : State) (w : GateWord) (lane : Fin 4) (size : Size) (data : Word)

/-! ### The bytes written -/

/-- The bits that an access carries are the low ones, eight to a byte. -/
theorem getLsbD_mask (i : Nat) : size.mask.getLsbD i = decide (i < 8 * size.bytes) := by
  have hmask : size.mask = BitVec.ofNat 32 (2 ^ (8 * size.bytes) - 1) := by cases size <;> rfl
  have hbytes : 8 * size.bytes ≤ 32 := by cases size <;> decide
  rw [hmask, BitVec.getLsbD_ofNat, Nat.testBit_two_pow_sub_one, Bool.eq_iff_iff]
  simp only [Bool.and_eq_true, decide_eq_true_eq]
  omega

theorem toNat_lane : (w.lane lane).toNat = 4 * w.number + lane.val := by
  have hnumber : w.number < 0x15 := by
    cases w with
    | gaugeData axis => cases axis <;> decide
    | _ => decide
  simp only [GateWord.lane, BitVec.toNat_ofNat]
  omega

/-- Every word begins at a multiple of every size, so the byte lane alone decides alignment. -/
theorem lane_mod_bytes : (w.lane lane).toNat % size.bytes = lane.val % size.bytes := by
  rw [toNat_lane]
  cases size <;> simp only [Size.bytes] <;> omega

theorem laneShift_lane : laneShift (w.lane lane) = 8 * lane.val := by
  have hlane := lane.isLt
  rw [laneShift, toNat_lane]
  omega

/-- A word with the written bytes replaced, bit by bit (R172, R188). -/
theorem getLsbD_mergeLanes (old : Word) (i : Nat) (hi : i < 32) :
    (mergeLanes old (w.lane lane) size (data &&& size.mask)).getLsbD i =
      if 8 * lane.val ≤ i ∧ i < 8 * (lane.val + size.bytes) then data.getLsbD (i - 8 * lane.val)
      else old.getLsbD i := by
  simp only [mergeLanes, laneMask, laneData, laneShift_lane, BitVec.getLsbD_or, BitVec.getLsbD_and,
    BitVec.getLsbD_not, BitVec.getLsbD_shiftLeft, getLsbD_mask, hi, decide_true, Bool.true_and]
  by_cases hlow : i < 8 * lane.val
  · simp [hlow, Nat.not_le.mpr hlow]
  · by_cases hhigh : i < 8 * (lane.val + size.bytes)
    · have hin : i - 8 * lane.val < 8 * size.bytes := by omega
      simp [hlow, Nat.not_lt.mp hlow, hhigh, hin]
    · have hin : ¬i - 8 * lane.val < 8 * size.bytes := by omega
      simp [hlow, hhigh, hin]

/-! ### The write -/

/-- A write at a byte lane that its size does not allow is refused MISALIGNED (R159). -/
theorem laneWrite_misaligned (i : Instr) (hx : exec i s = s.hostWrite (w.lane lane) size data)
    (hrec : s.classifier.record = none) (ha : lane.val % size.bytes ≠ 0) :
    exec i s = .next (s.refusedWrite (w.lane lane) .misaligned .none) :=
  Stations.write_refused s i _ size data _ _ hx hrec
    (Stations.decide_misaligned s _ (by rwa [lane_mod_bytes])) (by decide)

/-- An aligned write of a word that is snooped whatever the size takes its effect at the OK (R160, R167). -/
theorem completes_laneWrite (i : Instr) (d : Word)
    (hp : s.presents i = some (s.busWrite (w.lane lane) size data))
    (hx : exec i s = s.hostWrite (w.lane lane) size data) (hfree : s.portsFree)
    (ha : lane.val % size.bytes = 0)
    (hsnoop : ∀ q, s.decideGateWrite q w = q.forwardAs .snoop) :
    Completes i d s
      ((s.answered .ok).gateWordAtOk (w.lane lane) size (data &&& size.mask) w) := by
  have hd : s.decide ⟨.write, w.lane lane, size, data &&& size.mask⟩ =
      .forward .snoop (w.lane lane) (data &&& size.mask) := by
    simp [State.decide, lane_mod_bytes, ha, State.decideWrite, windowOf_lane, hsnoop,
      Request.forwardAs]
  have h := completes_snoop s i ⟨.write, w.lane lane, size, data &&& size.mask⟩ d hp hx hfree rfl hd
  rwa [State.snoopAtOk, windowOf_lane] at h

/-- Settles O33: alignment by the lane, then the bytes of each word bit by bit. -/
theorem enablesAndSelectorWritten : Obligations.EnablesAndSelectorWritten := by
  intro s lane size data d hfree written
  split
  case isTrue ha =>
    exact ⟨laneWrite_misaligned s .flagEnable lane size data _ rfl hfree.1 ha,
      laneWrite_misaligned s .selector lane size data _ rfl hfree.1 ha⟩
  case isFalse ha =>
    have ha : lane.val % size.bytes = 0 := Decidable.not_not.mp ha
    refine ⟨⟨_, completes_laneWrite s .flagEnable lane size data _ d rfl rfl hfree ha
        (fun _ => rfl), fun i hi => ?_, rfl⟩,
      ⟨_, completes_laneWrite s .selector lane size data _ d rfl rfl hfree ha (fun _ => rfl),
        fun i hi => getLsbD_mergeLanes .selector lane size data _ i hi, rfl⟩⟩
    have h32 : i < 32 := by omega
    show (BitVec.setWidth 22 (mergeLanes _ _ _ _)).getLsbD i = _
    rw [BitVec.getLsbD_setWidth, getLsbD_mergeLanes .flagEnable lane size data _ i h32]
    simp [hi, h32, written, State.answered]

end Sys2Proof.Machine.PassThrough
end

section
/-! SUPPORT. Accesses through the station views and the roving view: what the part decides of each, and its answer (R171, R172). -/

namespace Sys2Proof.Machine.PassThrough

variable (s : State)

/-! ### A host access as a request -/

/-- The request that a host access at an offset makes. -/
def request (o : Offset) : Access → Request
  | .read size => ⟨.read, o, size, 0⟩
  | .write size data => ⟨.write, o, size, data &&& size.mask⟩

/-- The memory's OK to a host access, as it comes back to the host unchanged (R163). -/
def okReply (d : Word) : Access → Reply
  | .read size => .okData (d &&& size.mask)
  | .write _ _ => .ok

theorem hostAccess_eq (o : Offset) (access : Access) :
    s.hostAccess o access = s.ifPortFree (s.arrive (request o access)) := by
  cases access <;> rfl

theorem request_offset (o : Offset) (access : Access) : (request o access).offset = o := by
  cases access <;> rfl

/-- A host access that the part redirects is carried out with its data unchanged, and the memory's answer comes back (R163, R171). -/
theorem carriedOut_redirect (i : Instr) (o target : Offset) (access : Access) (d : Word)
    (hx : exec i s = s.hostAccess o access) (hfree : s.portsFree)
    (hd : s.decide (request o access) = .forward .redirect target (request o access).data) :
    CarriedOut i (s.arrivedRecord (request o access) .redirect target (request o access).data) d s
      (s.answered (okReply d access)) := by
  rw [hostAccess_eq] at hx
  cases access with
  | read size => exact carriedOut_read s i _ .redirect target d hx hfree rfl (.inr rfl) hd
  | write size data => exact carriedOut_redirect_write s i _ target d hx hfree rfl hd

/-- A host access that the part decides to refuse is answered with that report (R159). -/
theorem access_refused (i : Instr) (o : Offset) (access : Access) (cause : Cause) (place : Place)
    (hx : exec i s = s.hostAccess o access) (hrec : s.classifier.record = none)
    (hd : s.decide (request o access) = .refuse cause place) (hp : cause ≠ .patchOverflow) :
    exec i s = .next (s.refuse (request o access).kind false o cause place) := by
  rw [hx, hostAccess_eq, arrive_refuse s _ cause place hrec hd, refuseArrival_eq _ _ _ _ _ hp,
    request_offset]

/-! ### The decision -/

/-- A redirection goes to the work record of the pallet that stands there (R171). -/
theorem decideRedirect_pallet (q : Request) (k : StationNo) (p : PalletNo)
    (hp : (s.entry k).pallet = some p) (hu : (s.entry k).status ≠ .uncertain) :
    s.decideRedirect q k = .forward .redirect (workOffset p (q.offset.toNat % 256)) q.data := by
  simp [State.decideRedirect, hp, hu]

/-- An aligned access to a station view: redirected for a station of the line, else NO_STATION (R159, R171). -/
theorem decide_stationView (q : Request) (k : StationNo) (hw : windowOf q.offset = .stationView k)
    (ha : q.offset.toNat % q.size.bytes = 0) :
    s.decide q =
      if s.inLine k then s.decideRedirect q k else .refuse .noStation .none := by
  cases hk : q.kind <;> simp [State.decide, ha, hk, State.decideRead, State.decideWrite, hw]

/-- An aligned access to the roving view (R172). -/
theorem decide_rovingView (q : Request) (hw : windowOf q.offset = .rovingView)
    (ha : q.offset.toNat % q.size.bytes = 0) : s.decide q = s.decideRoving q := by
  cases hk : q.kind <;> simp [State.decide, ha, hk, State.decideRead, State.decideWrite, hw]

/-- The roving view is the view of the station of the line that its selector names (R172). -/
theorem decideRoving_station (q : Request)
    (h : s.classifier.selector.toNat < s.stationCount ∧ s.classifier.selector.toNat < 28) :
    s.decideRoving q = s.decideRedirect q ⟨s.classifier.selector.toNat, h.2⟩ := by
  simp [State.decideRoving, State.selectedStation, State.selectedPosition, h.1, h.2, Option.filter,
    State.inLine]

/-- A selector that names no station of the line is refused NO_STATION, with the number where a position has it (R172; log 14). -/
theorem decideRoving_noStation (q : Request)
    (h : ¬(s.classifier.selector.toNat < s.stationCount ∧ s.classifier.selector.toNat < 28)) :
    s.decideRoving q =
      .refuse .noStation
        ⟨if h : s.classifier.selector.toNat < 28 then
          some ⟨s.classifier.selector.toNat, by omega⟩ else none, none⟩ := by
  by_cases hn : s.classifier.selector.toNat < 28
  · have hcount : ¬s.classifier.selector.toNat < s.stationCount := fun hc => h ⟨hc, hn⟩
    simp [State.decideRoving, State.selectedStation, State.selectedPosition, hn, Option.filter,
      State.inLine, hcount, StationNo.wide]
  · simp [State.decideRoving, State.selectedStation, State.selectedPosition, hn]

/-! ### The answer -/

variable (o : Fin 256) (access : Access) (d : Word)

/-- Every view begins at a multiple of 256, so the offset within it decides alignment. -/
theorem mod_bytes (at0 : Nat) (size : Size) (h : at0 % 256 = o.val) :
    at0 % size.bytes = o.val % size.bytes := by
  cases size <;> simp only [Size.bytes] <;> omega

/-- The answer to an access through the view of a station of the line: EMPTY_STATION, UNCERTAIN_ENTRY, or the work record of the pallet that stands there (R171). -/
def RedirectAnswer (i : Instr) (at0 : Offset) (k : StationNo) : Prop :=
  let q := request at0 access
  if (s.entry k).pallet = none then
    exec i s = .next (s.refuse q.kind false at0 .emptyStation (s.placeAt k))
  else if (s.entry k).status = .uncertain then
    exec i s = .next (s.refuse q.kind false at0 .uncertainEntry (s.placeAt k))
  else
    ∀ p, (s.entry k).pallet = some p →
      CarriedOut i (s.arrivedRecord q .redirect (workOffset p o.val) q.data) d s
        (s.answered (okReply d access))

/-- An access that the part decides to redirect is answered by the entry of its station (R171). -/
theorem redirect_answer (i : Instr) (at0 : Offset) (k : StationNo)
    (hx : exec i s = s.hostAccess at0 access) (hfree : s.portsFree)
    (ho : at0.toNat % 256 = o.val)
    (hd : s.decide (request at0 access) = s.decideRedirect (request at0 access) k) :
    RedirectAnswer s o access d i at0 k := by
  unfold RedirectAnswer
  intro q
  split
  case isTrue hnone =>
    exact access_refused s i at0 access _ _ hx hfree.1
      (by rw [hd, State.decideRedirect, hnone]) (by decide)
  case isFalse hsome =>
    split
    case isTrue hu =>
      obtain ⟨p, hp⟩ := Option.ne_none_iff_exists'.mp hsome
      exact access_refused s i at0 access _ _ hx hfree.1
        (by simp [hd, State.decideRedirect, hp, hu]) (by decide)
    case isFalse hu =>
      intro p hp
      exact carriedOut_redirect s i at0 (workOffset p o.val) access d hx hfree
        (by rw [hd, decideRedirect_pallet s _ k p hp hu, request_offset, ho])

/-- Settles O39: alignment and the line first, then the entry of the station, for both views and both kinds of access. -/
theorem viewsRedirected : Obligations.ViewsRedirected := by
  intro s o access d hfree size refused redirected
  have hsize (at0 : Offset) : (request at0 access).size = size := by cases access <;> rfl
  have hrefused (i : Instr) (at0 : Offset) (cause : Cause) (place : Place)
      (hx : exec i s = s.hostAccess at0 access) (hp : cause ≠ .patchOverflow)
      (hd : s.decide (request at0 access) = .refuse cause place) : refused i at0 cause place := by
    have h := access_refused s i at0 access cause place hx hfree.1 hd hp
    cases access <;> exact h
  have hredirected (i : Instr) (at0 : Offset) (k : StationNo)
      (h : RedirectAnswer s o access d i at0 k) : redirected i at0 k := by
    cases access <;> exact h
  have hmisaligned (i : Instr) (at0 : Offset) (hx : exec i s = s.hostAccess at0 access)
      (ho : at0.toNat % 256 = o.val) (hmis : o.val % size.bytes ≠ 0) :
      refused i at0 .misaligned .none :=
    hrefused i at0 _ _ hx (by decide)
      (Stations.decide_misaligned s _
        (by rwa [request_offset, hsize, mod_bytes o _ size ho]))
  have haligned (at0 : Offset) (ho : at0.toNat % 256 = o.val) (ha : ¬o.val % size.bytes ≠ 0) :
      (request at0 access).offset.toNat % (request at0 access).size.bytes = 0 := by
    rw [request_offset, hsize, mod_bytes o _ size ho]
    exact Decidable.not_not.mp ha
  constructor
  · intro k i at0
    have ho : at0.toNat % 256 = o.val := by
      show (viewOffset k o).toNat % 256 = o.val
      rw [toNat_viewOffset]
      omega
    split
    case isTrue hmis => exact hmisaligned i at0 rfl ho hmis
    case isFalse ha =>
      have hd := decide_stationView s _ k
        ((congrArg windowOf (request_offset at0 access)).trans (windowOf_viewOffset k o))
        (haligned at0 ho ha)
      split
      case isTrue hk =>
        rw [hk] at hd
        exact hrefused i at0 _ _ rfl (by decide) hd
      case isFalse hk =>
        rw [if_pos (by simpa using hk)] at hd
        exact hredirected i at0 k (redirect_answer s o access d i at0 k rfl hfree ho hd)
  · intro i at0 n
    have ho : at0.toNat % 256 = o.val := by
      show (rovingOffset o).toNat % 256 = o.val
      rw [toNat_rovingOffset]
      omega
    split
    case isTrue hmis => exact hmisaligned i at0 rfl ho hmis
    case isFalse ha =>
      have hd := decide_rovingView s _
        ((congrArg windowOf (request_offset at0 access)).trans (windowOf_rovingOffset o))
        (haligned at0 ho ha)
      split
      case isTrue hn =>
        rw [decideRoving_station s _ hn] at hd
        exact hredirected i at0 _ (redirect_answer s o access d i at0 _ rfl hfree ho hd)
      case isFalse hn =>
        rw [decideRoving_noStation s _ hn] at hd
        exact hrefused i at0 _ _ rfl (by decide) hd

end Sys2Proof.Machine.PassThrough
end

section
/-! SUPPORT. The queue of waiting commands, which no operation over State touches (logs 2, 11 and 22). -/

namespace Sys2Proof.Machine.Queue

variable (s : State)

/-- The queue of one of two states. -/
@[simp] theorem pending_ite (c : Prop) [Decidable c] (t u : State) :
    (if c then t else u).pending = if c then t.pending else u.pending :=
  apply_ite State.pending c t u

/-! ### The tracking unit and the compensation unit -/

@[simp] theorem quarantinePallet_pending (p : PalletNo) :
    (s.quarantinePallet p).pending = s.pending := by
  simp [State.quarantinePallet, State.unqueue, State.setService]

@[simp] theorem quarantineClaim_pending (p : PalletNo) :
    (s.quarantineClaim p).pending = s.pending := by
  simp [State.quarantineClaim]

@[simp] theorem claimBlock_pending (k : StationNo) (b : Block) :
    (s.claimBlock k b).pending = s.pending := by
  unfold State.claimBlock
  split <;> rfl

@[simp] theorem correctEntry_pending (k : StationNo) (p : PalletNo) (arrives : Bool) :
    (s.correctEntry k p arrives).pending = s.pending := by
  cases h : (s.entry k).pallet <;> simp [State.correctEntry, h, State.displace]

@[simp] theorem unloadExit_pending : s.unloadExit.pending = s.pending := by
  unfold State.unloadExit
  split
  · rfl
  · simp

@[simp] theorem mapShift_pending : s.mapShift.pending = s.pending := by
  simp [State.mapShift, State.moveEntries]

@[simp] theorem applyGaugeResult_pending (p : PalletNo) :
    (s.applyGaugeResult p).pending = s.pending := by
  simp [State.applyGaugeResult]

@[simp] theorem ungaugedAccounting_pending (leaving : Option PalletNo) :
    (s.ungaugedAccounting leaving).pending = s.pending := by
  have hcleared (t : State) (p : Option PalletNo) :
      (t.forPallet p State.clearGauged).pending = t.pending := by
    cases p <;> rfl
  rw [State.ungaugedAccounting, hcleared]
  cases leaving with
  | none => rfl
  | some p => simp [State.forPallet, State.countUngauged]

/-! ### The identity checker -/

@[simp] theorem enterProduction_pending : s.enterProduction.pending = s.pending := by
  simp [State.enterProduction]

@[simp] theorem checkAligned_pending : s.checkAligned.pending = s.pending := by
  simp [State.checkAligned, State.alignSuccess]

@[simp] theorem startAttempt_pending : s.startAttempt.pending = s.pending := by
  simp [State.startAttempt]

@[simp] theorem failAttempt_pending : s.failAttempt.pending = s.pending := by
  simp [State.failAttempt, State.exhaustAlignment, State.resetUncertain]

@[simp] theorem beginAlignment_pending : s.beginAlignment.pending = s.pending := by
  simp [State.beginAlignment]

@[simp] theorem recordTag_pending (r : ReaderNo) (k : StationNo) (quality : Quality)
    (read : Option PalletNo) (outcome : TagOutcome) :
    (s.recordTag r k quality read outcome).pending = s.pending := rfl

@[simp] theorem takeUncertain_pending (r : ReaderNo) (k : StationNo) (p : PalletNo) :
    (s.takeUncertain r k p).pending = s.pending := by
  have hmarked (t : State) :
      (if t.line.state = .aligning then t.failAttempt else t).pending = t.pending := by simp
  exact hmarked _

@[simp] theorem takeGood_pending (r : ReaderNo) (k : StationNo) (p : PalletNo) :
    (s.takeGood r k p).pending = s.pending := by
  simp [State.takeGood, State.takeMatch, State.takeCorrection, State.takeConflict, State.setStatus]

@[simp] theorem takeTag_pending (t : TagWord) : (State.takeTag t s).pending = s.pending := by
  unfold State.takeTag
  split
  · simp [State.takeNoRead]
  · rfl

/-! ### The index cycle -/

@[simp] theorem acceptIndex_pending : s.acceptIndex.pending = s.pending := by
  simp [State.acceptIndex]

@[simp] theorem evaluateCycle_pending : s.evaluateCycle.pending = s.pending := by
  cases h : s.line.state <;>
    simp [State.evaluateCycle, h, State.evaluateProducing, State.evaluateRestricted,
      State.rotateCycle, State.applyStopPending]

@[simp] theorem completeIndex_pending : s.completeIndex.pending = s.pending := by
  simp [State.completeIndex, State.gateCompletion, State.presenceCheck, State.resetUnits]

@[simp] theorem resolveComplete_pending : s.resolveComplete.pending = s.pending := by
  simp [State.resolveComplete]

/-! ### The station monitor -/

@[simp] theorem withdraw_pending (k : StationNo) : (s.withdraw k).pending = s.pending := by
  simp [State.withdraw]

@[simp] theorem clearRose_pending (k : StationNo) : (s.clearRose k).pending = s.pending := by
  unfold State.clearRose
  split
  · simp [State.completeStation, State.claimCompletion]
  · rfl

@[simp] theorem clearFell_pending (k : StationNo) : (s.clearFell k).pending = s.pending := by
  have hacknowledged (t : State) : (t.acknowledge k).pending = t.pending := by
    unfold State.acknowledge
    split <;> rfl
  simp [State.clearFell, hacknowledged]

@[simp] theorem updateClear_pending (k : StationNo) (f : InputLine → InputLine) :
    (s.updateClear k f).pending = s.pending := by
  simp [State.updateClear, State.clearChanged]

@[simp] theorem settleInput_pending (k : StationNo) (input : FieldInput) :
    (s.settleInput k input).pending = s.pending := by
  cases input with
  | clear => exact updateClear_pending s k _
  | presence => rfl

@[simp] theorem enterSetup_pending : s.enterSetup.pending = s.pending := by
  simp [State.enterSetup]

@[simp] theorem reachAck_pending (k : StationNo) : (s.reachAck k).pending = s.pending := by
  unfold State.reachAck
  split
  · simp
  · rfl

@[simp] theorem takeUnitBoundary_pending (k : StationNo) :
    (s.takeUnitBoundary k).pending = s.pending := by
  simp [State.takeUnitBoundary, State.reachWarn, State.reachLimit]

@[simp] theorem takeIndexBoundary_pending : s.takeIndexBoundary.pending = s.pending := by
  simp [State.takeIndexBoundary]

@[simp] theorem takeAlignBoundary_pending : s.takeAlignBoundary.pending = s.pending := by
  simp [State.takeAlignBoundary]

@[simp] theorem advance_pending : s.advance.pending = s.pending := rfl

/-! ### The gate commands -/

@[simp] theorem insertPallet_pending (p : PalletNo) (v : Fin 6) (d : Destination) :
    (s.insertPallet p v d).pending = s.pending := by
  cases d with
  | queue => rfl
  | station k => cases h : s.lineStation k <;> simp [State.insertPallet, h]

@[simp] theorem removePallet_pending (p : PalletNo) : (s.removePallet p).pending = s.pending := by
  unfold State.removePallet
  split <;> rfl

@[simp] theorem stopLine_pending : s.stopLine.pending = s.pending := by
  cases h : s.line.state <;> simp [State.stopLine, h]

theorem withSome_pending {α : Type} (x : Option α) (f : α → State → State)
    (hf : ∀ a, (f a s).pending = s.pending) : (s.withSome x f).pending = s.pending := by
  cases x with
  | some a => exact hf a
  | none => rfl

/-- No gate command touches the queue of commands (R174). -/
@[simp] theorem commandEffect_pending (c : GateCommand) :
    (State.commandEffect c s).pending = s.pending := by
  cases c with
  | insert p v d => exact withSome_pending s _ _ fun w => insertPallet_pending s p w d
  | setVariant p v => exact withSome_pending s _ _ fun _ => rfl
  | confirm k => exact withSome_pending s _ _ fun _ => rfl
  | releaseStation k => exact withSome_pending s _ _ fun _ => rfl
  | resolveIndex o => simp [State.commandEffect, State.resolveNotMoved]
  | _ =>
    simp [State.commandEffect, State.setService, State.setBlock, State.holdLine, State.resumeLine]

/-! ### A transaction -/

@[simp] theorem refuse_pending (kind : Kind) (outside : Bool) (o : Offset) (cause : Cause)
    (place : Place) : (s.refuse kind outside o cause place).pending = s.pending := by
  simp [State.refuse]

@[simp] theorem imageError_pending (kind : Kind) (outside : Bool) (o : Offset) :
    (s.imageError kind outside o).pending = s.pending := by
  simp [State.imageError]

@[simp] theorem arrive_pending (q : Request) : (s.arrive q).pending = s.pending := by
  unfold State.arrive
  split
  · simp [State.refuseArrival]
  · simp

@[simp] theorem arriveOutside_pending (kind : Kind) (a : Address) (size : Size) (data : Word) :
    (s.arriveOutside kind a size data).pending = s.pending := by
  simp [State.arriveOutside]

@[simp] theorem forward_pending : s.forward.pending = s.pending := by
  have hsent (t : Transaction) : (t.forwardEffect s).pending = s.pending := by
    unfold Transaction.forwardEffect
    split <;> rfl
  unfold State.forward
  split
  · simp [hsent]
  · rfl

@[simp] theorem undoForward_pending (t : Transaction) :
    (t.undoForward s).pending = s.pending := by
  unfold Transaction.undoForward
  split
  · exact withdraw_pending s _
  all_goals rfl

@[simp] theorem timeOut_pending : s.timeOut.pending = s.pending := by
  unfold State.timeOut
  split
  · simp
  · rfl

@[simp] theorem abandonTransaction_pending : s.abandonTransaction.pending = s.pending := by
  unfold State.abandonTransaction
  split
  · simp
  · rfl

/-- An operation made for each station in turn. -/
theorem foldl_pending (l : List StationNo) (f : State → StationNo → State)
    (hf : ∀ t k, (f t k).pending = t.pending) : (l.foldl f s).pending = s.pending := by
  induction l generalizing s with
  | nil => rfl
  | cons k l ih => exact (ih (f s k)).trans (hf s k)

@[simp] theorem takeDue_pending : s.takeDue.pending = s.pending := by
  have hfilters (t : State) :
      (allStations.foldl (fun s k => (s.settleInput k .clear).settleInput k .presence)
        t).pending = t.pending :=
    foldl_pending t _ _ fun t k => by simp
  have hunits (t : State) :
      (allStations.foldl (fun s k => s.takeUnitBoundary k) t).pending = t.pending :=
    foldl_pending t _ _ fun t k => by simp
  simp [State.takeDue, hfilters, hunits]

/-! ### The memory's OK -/

/-- A snooped write dropped, or taken with an effect that keeps the queue (R167, R168). -/
theorem takeOrDrop_pending (o : Offset) (checks : List (Bool × Cause)) (effect : State → State)
    (h : (effect s).pending = s.pending) : (s.takeOrDrop o checks effect).pending = s.pending := by
  unfold State.takeOrDrop
  split
  · rfl
  · exact h

@[simp] theorem transferAtOk_pending (o : Offset) (data : Word) :
    (s.transferAtOk o data).pending = s.pending := by
  unfold State.transferAtOk
  split
  · split
    · rfl
    · exact acceptIndex_pending s
  all_goals rfl

@[simp] theorem gateAtOk_pending (o : Offset) (data : Word) :
    (s.gateAtOk o data).pending = s.pending := by
  unfold State.gateAtOk
  split
  · exact takeOrDrop_pending s _ _ _ (commandEffect_pending s _)
  · rfl

/-- No word of the gate control block touches the queue of commands (R160). -/
@[simp] theorem gateWordAtOk_pending (o : Offset) (size : Size) (data : Word) (w : GateWord) :
    (s.gateWordAtOk o size data w).pending = s.pending := by
  cases w with
  | gateCommand => exact gateAtOk_pending s o data
  | transfer => exact transferAtOk_pending s o data
  | tag => exact takeOrDrop_pending s _ _ _ (takeTag_pending s _)
  | gaugeHeader => exact takeOrDrop_pending s _ _ _ (by simp [State.takeHeader])
  | captureClear => simp [State.gateWordAtOk, State.clearCaptures]
  | dropRecord => simp [State.gateWordAtOk, State.clearDrop]
  | _ => rfl

/-- No snooped write touches the queue of commands (R167). -/
@[simp] theorem snoopAtOk_pending (o : Offset) (size : Size) (data : Word) :
    (s.snoopAtOk o size data).pending = s.pending := by
  unfold State.snoopAtOk
  split
  · exact gateWordAtOk_pending s _ _ _ _
  · exact takeOrDrop_pending s _ _ _ (by simp [State.takeParams])
  · exact takeOrDrop_pending s _ _ _ rfl
  · exact takeOrDrop_pending s _ _ _ rfl
  · exact takeOrDrop_pending s _ _ _ rfl
  all_goals rfl

@[simp] theorem respondOk_pending (t : Transaction) (data : Word) :
    (State.respondOk t data s).pending = s.pending := by
  unfold State.respondOk
  split
  · simp
  all_goals rfl

/-! ### Every command -/

variable {s} {t : State}

/-- A transaction that arrives at a free port, with the state it leaves (R161). -/
theorem ifPortFree_pending {arrived : State} (h : arrived.pending = s.pending)
    (hx : s.ifPortFree arrived = .next t) : t.pending = s.pending := by
  unfold State.ifPortFree at hx
  split at hx
  · cases hx
  · cases hx
    exact h

/-- A host command is refused or stands ARRIVED, with the queue kept (R159). -/
theorem hostCommand_pending (i : Instr) (h : hostCommand i = true) (hx : exec i s = .next t) :
    t.pending = s.pending := by
  rcases PassThrough.hostCommand_arrives s i h with ⟨q, harrives⟩ | ⟨kind, a, size, data, harrives⟩
  · exact ifPortFree_pending (arrive_pending s q) (harrives s rfl ▸ hx)
  · exact ifPortFree_pending (arriveOutside_pending s kind a size data) (harrives s rfl ▸ hx)

/-- An image response is discarded, or answers the transaction that waits for it (R163, R165). -/
theorem onResponse_pending (act : Transaction → State)
    (hact : ∀ r, (act r).pending = s.pending) (hx : s.onResponse act = .next t) :
    t.pending = s.pending := by
  obtain rfl | ⟨r, rfl⟩ := Settings.onResponse_cases act hx
  · rfl
  · exact hact r

/-- A command that always answers a next state, one with the queue kept. -/
theorem next_pending {u : State} {i : Instr} (hi : exec i s = .next u)
    (h : u.pending = s.pending) (hx : exec i s = .next t) : t.pending = s.pending :=
  Host.Outcome.next.inj (hi.symm.trans hx) ▸ h

/-- Settles O2: the arrivals at once, then the steps of the bus, of the field inputs and of time. -/
theorem queueUntouched : Obligations.QueueUntouched := by
  intro i s t hx
  cases i with
  | transactionForward => exact next_pending rfl (forward_pending s) hx
  | imageResponseOk d => exact onResponse_pending _ (fun r => respondOk_pending s r d) hx
  | imageResponseError => exact onResponse_pending _ (fun r => by simp [State.respondError]) hx
  | imageResponseTimeout => exact next_pending rfl (timeOut_pending s) hx
  | staleResponseDiscard =>
    simp only [exec, execStaleResponseDiscard] at hx
    split at hx
    · cases hx
      rfl
    · cases hx
  | atRestFall | atRestRise => exact next_pending rfl (by simp) hx
  | driveFaultRise | estopActive | controllerResetAssert => exact next_pending rfl (by simp) hx
  | driveFaultFall | estopInactive | controllerResetDeassert =>
    cases hx
    rfl
  | powerOnReset straps => exact next_pending rfl (by simp) hx
  | clearInputChange k level => exact next_pending rfl (updateClear_pending s k _) hx
  | presenceInputChange k level =>
    cases hx
    rfl
  | filterSettle k input => exact next_pending rfl (settleInput_pending s k input) hx
  | timeBaseTick => exact next_pending (u := s.takeDue.advance) rfl (by simp) hx
  | indexSlowMark | indexLimitMark => exact next_pending rfl (by simp) hx
  | ackMark k | warnMark k | limitMark k => exact next_pending rfl (by simp) hx
  | alignWindowExpiry => exact next_pending rfl (takeAlignBoundary_pending s) hx
  | _ => exact hostCommand_pending _ rfl hx

end Sys2Proof.Machine.Queue
end

section
/-! SUPPORT. The cross-checks of CLOSE_SETUP: what fails a position, and the eleven conditions (R184, R185). -/

namespace Sys2Proof.Machine.CrossChecking

variable (s : State) (k : StationNo)

/-! ### A position that fails -/

theorem anyBelow_iff (test : StationNo → Bool) :
    anyBelow k test = true ↔ ∃ j, j < k ∧ test j = true := by
  simp only [anyBelow, allStations, List.any_eq_true, List.mem_finRange, true_and, Bool.and_eq_true,
    decide_eq_true_eq, Fin.lt_def]

theorem ruledStation_iff :
    s.ruledStation k = true ↔ ∃ r, (s.rule r).enabled = true ∧ (s.rule r).station = k := by
  simp only [State.ruledStation, State.rule, List.any_eq_true, Vector.mem_toList_iff,
    Vector.mem_iff_getElem, Bool.and_eq_true, decide_eq_true_eq]
  constructor
  · rintro ⟨_, ⟨i, hi, rfl⟩, hnames⟩
    exact ⟨⟨i, hi⟩, hnames⟩
  · rintro ⟨r, hnames⟩
    exact ⟨_, ⟨r.val, r.isLt, rfl⟩, hnames⟩

/-- The unload station is the last of the line (00, Numbers and units). -/
theorem eq_unloadStation_iff : k = s.unloadStation ↔ k.val = s.stationCount - 1 :=
  Fin.ext_iff

/-- Stations j and k are both gauge stations (R184, 5). -/
def GaugesClash (j k : StationNo) : Prop :=
  (s.descriptor j).role = .gauge ∧ (s.descriptor k).role = .gauge

/-- Stations j and k are assigned one reader (R184, 7). -/
def ReadersClash (j k : StationNo) : Prop :=
  (s.descriptor j).reader.isSome = true ∧ (s.descriptor j).reader = (s.descriptor k).reader

theorem gaugesClash_below_iff :
    (∃ j, j < k ∧ GaugesClash s j k) ↔
      (s.descriptor k).role = .gauge ∧ ∃ j, j < k ∧ (s.descriptor j).role = .gauge :=
  ⟨fun ⟨j, hjk, hj, hk⟩ => ⟨hk, j, hjk, hj⟩, fun ⟨hk, j, hjk, hj⟩ => ⟨j, hjk, hj, hk⟩⟩

theorem readersClash_below_iff :
    (∃ j, j < k ∧ ReadersClash s j k) ↔
      (s.descriptor k).reader ≠ none ∧
        ∃ j, j < k ∧ (s.descriptor j).reader = (s.descriptor k).reader := by
  simp only [ReadersClash, ← Option.isSome_iff_ne_none]
  exact ⟨fun ⟨j, hjk, hj, heq⟩ => ⟨heq ▸ hj, j, hjk, heq⟩,
    fun ⟨hk, j, hjk, heq⟩ => ⟨j, hjk, heq ▸ hk, heq⟩⟩

/-- A position fails a cross-check: 1 to 8 in the line, 11 beyond it (R184). -/
theorem positionFails_iff :
    s.positionFails k = true ↔
      if k.val < s.stationCount then s.stationFails k = true
      else ∃ r, (s.rule r).enabled = true ∧ (s.rule r).station = k := by
  unfold State.positionFails State.inLine
  by_cases hk : k.val < s.stationCount
  · simp [hk]
  · simp [hk, ruledStation_iff]

variable (hcount : 3 ≤ s.stationCount)
include hcount

/-- The cross-checks 1 to 8 at a station of the line: one of them fails (R184). -/
theorem stationFails_iff :
    s.stationFails k = true ↔
      (k = 0 ∧ (s.descriptor k).role ≠ .load) ∨ (k ≠ 0 ∧ (s.descriptor k).role = .load) ∨
      (k.val = s.stationCount - 1 ∧ (s.descriptor k).role ≠ .unload) ∨
      (k.val ≠ s.stationCount - 1 ∧ (s.descriptor k).role = .unload) ∨
      ((s.descriptor k).role = .gauge ∧ ∃ j, j < k ∧ (s.descriptor j).role = .gauge) ∨
      (k = 0 ∧ (s.descriptor k).reader ≠ some 0) ∨
      ((s.descriptor k).reader ≠ none ∧
        ∃ j, j < k ∧ (s.descriptor j).reader = (s.descriptor k).reader) ∨
      (s.descriptor k).limit ≤ (s.descriptor k).ack ∨
      (s.descriptor k).limit < (s.descriptor k).warn := by
  have hlast : k.val + 1 = s.stationCount ↔ k.val = s.stationCount - 1 := by omega
  simp [State.stationFails, anyBelow_iff, hlast, or_assoc, Option.isSome_iff_ne_none]

/-- The cross-checks 1 to 8 at a station of the line: each of them passes (R184). -/
theorem stationFails_eq_false_iff :
    s.stationFails k = false ↔
      (k = 0 → (s.descriptor k).role = .load) ∧ (k ≠ 0 → (s.descriptor k).role ≠ .load) ∧
      (k = s.unloadStation → (s.descriptor k).role = .unload) ∧
      (k ≠ s.unloadStation → (s.descriptor k).role ≠ .unload) ∧
      (∀ j, j < k → ¬GaugesClash s j k) ∧
      (k = 0 → (s.descriptor k).reader = some 0) ∧
      (∀ j, j < k → ¬ReadersClash s j k) ∧
      (s.descriptor k).ack < (s.descriptor k).limit ∧
        (s.descriptor k).warn ≤ (s.descriptor k).limit := by
  rw [← Bool.not_eq_true, stationFails_iff s k hcount, ← gaugesClash_below_iff,
    ← readersClash_below_iff]
  simp [eq_unloadStation_iff]

/-! ### The conditions over the line -/

theorem zero_inLine : s.inLine 0 = true :=
  decide_eq_true (Nat.lt_of_lt_of_le (by decide) hcount)

theorem unloadStation_inLine : s.inLine s.unloadStation = true :=
  decide_eq_true (Nat.sub_lt (Nat.lt_of_lt_of_le (by decide) hcount) Nat.one_pos)

omit hcount in
/-- What is asked of one station of the line alone (R184, 1, 3 and 6). -/
theorem forall_inLine_eq_iff (a : StationNo) (ha : s.inLine a = true) (holds : StationNo → Prop) :
    (∀ k, s.inLine k = true → k = a → holds k) ↔ holds a :=
  ⟨fun h => h a ha rfl, fun h _ _ hk => hk ▸ h⟩

omit hcount in
/-- No two stations of the line clash where none clashes with one below it (R184, 5 and 7). -/
theorem forall_inLine_below_iff (clash : StationNo → StationNo → Prop)
    (hsymm : ∀ j k, clash j k → clash k j) :
    (∀ k, s.inLine k = true → ∀ j, j < k → ¬clash j k) ↔
      ∀ j k, s.inLine j = true → s.inLine k = true → clash j k → j = k := by
  constructor
  · intro hbelow j k hj hk hclash
    rcases Nat.lt_trichotomy j.val k.val with hjk | hjk | hkj
    · exact absurd hclash (hbelow k hk j hjk)
    · exact Fin.ext hjk
    · exact absurd (hsymm j k hclash) (hbelow j hj k hkj)
  · intro hapart k hk j hjk hclash
    have hj : s.inLine j = true :=
      decide_eq_true (Nat.lt_trans hjk (of_decide_eq_true (p := k.val < s.stationCount) hk))
    exact Fin.ne_of_lt hjk (hapart j k hj hk hclash)

omit hcount in
theorem gaugesClash_symm (j k : StationNo) : GaugesClash s j k → GaugesClash s k j :=
  And.symm

omit hcount in
theorem readersClash_symm (j k : StationNo) : ReadersClash s j k → ReadersClash s k j :=
  fun ⟨hsome, heq⟩ => ⟨heq ▸ hsome, heq.symm⟩

/-- No station of the line fails where the cross-checks 1 to 8 hold over the line (R184). -/
theorem lineStations_pass_iff :
    (∀ k, s.inLine k = true → s.stationFails k = false) ↔
      (s.descriptor 0).role = .load ∧
      (∀ k, s.inLine k = true → k ≠ 0 → (s.descriptor k).role ≠ .load) ∧
      (s.descriptor s.unloadStation).role = .unload ∧
      (∀ k, s.inLine k = true → k ≠ s.unloadStation → (s.descriptor k).role ≠ .unload) ∧
      (∀ j k, s.inLine j = true → s.inLine k = true → GaugesClash s j k → j = k) ∧
      (s.descriptor 0).reader = some 0 ∧
      (∀ j k, s.inLine j = true → s.inLine k = true → ReadersClash s j k → j = k) ∧
      ∀ k, s.inLine k = true →
        (s.descriptor k).ack < (s.descriptor k).limit ∧
          (s.descriptor k).warn ≤ (s.descriptor k).limit := by
  simp only [stationFails_eq_false_iff s _ hcount, imp_and, forall_and,
    forall_inLine_eq_iff s 0 (zero_inLine s hcount),
    forall_inLine_eq_iff s _ (unloadStation_inLine s hcount),
    forall_inLine_below_iff s _ (gaugesClash_symm s),
    forall_inLine_below_iff s _ (readersClash_symm s)]

omit hcount in
/-- No enabled rule names a position beyond the line: every one names a station of it (R184, 11). -/
theorem positionsBeyond_pass_iff :
    (∀ k, s.inLine k = false → s.ruledStation k = false) ↔
      ∀ r, (s.rule r).enabled = true → s.inLine (s.rule r).station = true := by
  simp only [← Bool.not_eq_true, ruledStation_iff, not_exists, not_and]
  exact ⟨fun h r hr => Decidable.byContradiction fun hk => h _ hk r hr rfl,
    fun h k hk r hr hstation => hk (hstation ▸ h r hr)⟩

omit hcount in
/-- The cross-checks pass: 1 to 8 in the line, 9 and 10 of its parameters, 11 beyond it (R184). -/
theorem crossChecksPass_iff :
    s.crossChecksPass = true ↔
      (∀ k, s.inLine k = true → s.stationFails k = false) ∧
      s.config.params.indexSlow < s.config.params.indexLimit ∧
      s.config.params.failRestrict ≤ s.config.params.failHalt ∧
      ∀ k, s.inLine k = false → s.ruledStation k = false := by
  have hpositions : (∀ k, s.positionFails k = false) ↔
      (∀ k, s.inLine k = true → s.stationFails k = false) ∧
        ∀ k, s.inLine k = false → s.ruledStation k = false := by
    rw [← forall_and]
    refine forall_congr' fun k => ?_
    unfold State.positionFails
    cases s.inLine k <;> simp
  have hpass : s.crossChecksPass = true ↔
      (∀ k, s.positionFails k = false) ∧ s.lineChecksPass = true := by
    simp [State.crossChecksPass, State.failingStation, allStations]
  have hline : s.lineChecksPass = true ↔
      s.config.params.indexSlow < s.config.params.indexLimit ∧
        s.config.params.failRestrict ≤ s.config.params.failHalt := by
    simp [State.lineChecksPass]
  rw [hpass, hpositions, hline]
  constructor
  · rintro ⟨⟨hstations, hrules⟩, hslow, hfail⟩
    exact ⟨hstations, hslow, hfail, hrules⟩
  · rintro ⟨hstations, hslow, hfail, hrules⟩
    exact ⟨⟨hstations, hrules⟩, hslow, hfail⟩

omit hcount in
/-- Settles O9: the checks station by station are those over the line, and what fails a position is one of them. -/
theorem crossChecks : Obligations.CrossChecks := by
  intro s hcount
  refine ⟨?_, fun k => ?_⟩
  · rw [crossChecksPass_iff, lineStations_pass_iff s hcount, positionsBeyond_pass_iff]
    simp only [GaugesClash, ReadersClash, and_imp, and_assoc]
  · rw [positionFails_iff, stationFails_iff s k hcount]

end Sys2Proof.Machine.CrossChecking
end

section
/-! SUPPORT. What the checks of a configuration write ask of the entry as formed, field by field (R177 to R182). -/

namespace Sys2Proof.Machine.ConfigChecks

open Settings

/-! ### Bytes and fields -/

/-- The n bytes from byte b share a byte with a write of a size from byte `first` (R180). -/
abbrev Touched (first : Nat) (size : Size) (b n : Nat) : Prop :=
  first < b + n ∧ b < first + size.bytes

/-- The 16-bit number at byte b (00, Byte order). -/
abbrev half (formed : Nat → Nat) (b : Nat) : Nat := formed b + 256 * formed (b + 1)

/-- The 32-bit number at byte b (00, Byte order). -/
abbrev wide (formed : Nat → Nat) (b : Nat) : Nat := half formed b + 65536 * half formed (b + 2)

theorem leRead_two (b : Nat → Nat) (first : Nat) : leRead b first 2 = half b first := by
  simp only [leRead, half, Nat.add_zero]
  omega

theorem leRead_four (b : Nat → Nat) (first : Nat) : leRead b first 4 = wide b first := by
  simp only [leRead, wide, half, Nat.add_zero, Nat.add_assoc, Nat.reduceAdd]
  omega

/-- A 16-bit number of bytes is at most 65535, the bound of the marks and windows (R177, R178). -/
theorem half_le {b : Nat → Nat} (hbyte : ∀ i, b i < 256) (i : Nat) : half b i ≤ 65535 := by
  have hlow := hbyte i
  have hhigh := hbyte (i + 1)
  simp only [half]
  omega

theorem params_byte_lt (p : LineParams) (i : Nat) : p.byte i < 256 := by
  have hstations := p.stationCount.isLt
  have hvariants := p.variantCount.isLt
  unfold LineParams.byte byteOf
  split <;> omega

theorem descriptor_byte_lt (d : Descriptor) (i : Nat) : d.byte i < 256 := by
  have hrole : d.role.code < 256 := by cases d.role <;> decide
  have hmode : d.mode.code < 256 := by cases d.mode <;> decide
  have hauthority := Bool.toNat_lt d.authority
  unfold Descriptor.byte byteOf
  split
  case h_2 => split <;> omega
  all_goals omega

theorem variant_byte_lt (v : VariantEntry) (i : Nat) : v.byte i < 256 := by
  unfold VariantEntry.byte byteOf
  split <;> omega

/-! ### The checks of an entry -/

variable (first : Nat) (size : Size)

/-- Every field that the write touches holds one of its values in the entry as formed (R180). -/
def TouchedHold (fields : List FieldSpec) (formed : Nat → Nat) : Prop :=
  ∀ f ∈ fields, Touched first size f.first f.len → f.takes (leRead formed f.first f.len) = true

theorem touchedHold_cons (f : FieldSpec) (fields : List FieldSpec) (formed : Nat → Nat) :
    TouchedHold first size (f :: fields) formed ↔
      (Touched first size f.first f.len → f.takes (leRead formed f.first f.len) = true) ∧
        TouchedHold first size fields formed :=
  List.forall_mem_cons

theorem touchedHold_nil (formed : Nat → Nat) : TouchedHold first size [] formed ↔ True := by
  simp [TouchedHold]

/-- A byte lies in no field of a block. -/
def Reserved (fields : List FieldSpec) (b : Nat) : Prop :=
  ∀ f ∈ fields, b < f.first ∨ f.first + f.len ≤ b

theorem reserved_cons (f : FieldSpec) (fields : List FieldSpec) (b : Nat) :
    Reserved (f :: fields) b ↔ (b < f.first ∨ f.first + f.len ≤ b) ∧ Reserved fields b :=
  List.forall_mem_cons

theorem reserved_nil (b : Nat) : Reserved [] b ↔ True := by
  simp [Reserved]

theorem touched_iff (f : FieldSpec) :
    f.touched first size.bytes = true ↔ Touched first size f.first f.len := by
  simp [FieldSpec.touched]

/-- A check asked of a touched field alone (R180, R181, R182). -/
theorem untouched_or_iff (f : FieldSpec) (check : Bool) :
    (!f.touched first size.bytes || check) = true ↔
      (Touched first size f.first f.len → check = true) := by
  rw [← touched_iff first size f]
  cases f.touched first size.bytes <;> simp

/-- A byte within a field, or zero: zero where it is reserved (R180). -/
theorem inField_or_zero_iff (fields : List FieldSpec) (b n : Nat) :
    (fields.any (fun f => f.touched b 1) || decide (n = 0)) = true ↔
      (Reserved fields b → n = 0) := by
  have hfield : fields.any (fun f => f.touched b 1) = true ↔ ¬Reserved fields b := by
    have hwithin (f : FieldSpec) :
        f.touched b 1 = true ↔ ¬(b < f.first ∨ f.first + f.len ≤ b) := by
      simp only [FieldSpec.touched, Bool.and_eq_true, decide_eq_true_eq]
      omega
    simp only [Reserved, List.any_eq_true, hwithin, Classical.not_forall, exists_prop]
  rw [Bool.or_eq_true, hfield, decide_eq_true_eq, Classical.or_iff_not_imp_left, Classical.not_not]

/-- Checks 2 and 3 of R180: every field touched holds one of its values, and every reserved byte written is zero. -/
theorem entryTakes_iff (fields : List FieldSpec) (formed : Nat → Nat) :
    entryTakes fields formed first size.bytes = true ↔
      TouchedHold first size fields formed ∧
        ∀ b, Touched first size b 1 → Reserved fields b → formed b = 0 := by
  simp only [entryTakes, Bool.and_eq_true, List.all_eq_true, untouched_or_iff, inField_or_zero_iff,
    List.mem_range]
  refine and_congr_right' ⟨fun h b ⟨hlow, hhigh⟩ => ?_, fun h i hi => h (first + i) ?_⟩
  · obtain ⟨i, rfl⟩ := Nat.exists_eq_add_of_le (Nat.le_of_lt_succ hlow)
    exact h i (Nat.lt_of_add_lt_add_left hhigh)
  · constructor <;> omega

/-! ### Station descriptors and variant table entries -/

theorem reserved_descriptorFields (b : Nat) : Reserved descriptorFields b ↔ 0x0A ≤ b := by
  simp only [descriptorFields, reserved_cons, reserved_nil, Nat.reduceAdd, and_true]
  omega

theorem reserved_variantFields (b : Nat) : Reserved variantFields b ↔ b = 0x03 ∨ 0x08 ≤ b := by
  simp only [variantFields, reserved_cons, reserved_nil, Nat.reduceAdd, and_true]
  omega

theorem entryTakes_descriptorFields {formed : Nat → Nat} (hbyte : ∀ i, formed i < 256) :
    entryTakes descriptorFields formed first size.bytes = true ↔
      (Touched first size 0x00 1 → formed 0x00 ≤ 3) ∧
      (Touched first size 0x01 1 → formed 0x01 ≤ 3 ∨ formed 0x01 = 0xFF) ∧
      (Touched first size 0x02 1 → formed 0x02 ≤ 1) ∧
      (Touched first size 0x03 1 → formed 0x03 ≤ 2) ∧
      (Touched first size 0x04 2 → 1 ≤ half formed 0x04) ∧
      (Touched first size 0x06 2 → 1 ≤ half formed 0x06) ∧
      (Touched first size 0x08 2 → 1 ≤ half formed 0x08) ∧
      ∀ b, Touched first size b 1 → 0x0A ≤ b → formed b = 0 := by
  simp only [entryTakes_iff, reserved_descriptorFields]
  simp only [descriptorFields, touchedHold_cons, touchedHold_nil, inRange_iff, leRead_one,
    leRead_two, half_le hbyte, Bool.or_eq_true, decide_eq_true_eq, Nat.lt_succ_iff, Nat.zero_le,
    true_and, and_true, and_assoc]

/-- The operate map as formed has its reserved bits 28 to 31 zero: the top four bits of its last byte (R179). -/
theorem operateMap_lt_iff {formed : Nat → Nat} (hbyte : ∀ i, formed i < 256) :
    wide formed 0x04 < 2 ^ 28 ↔ formed 0x07 < 16 := by
  have h4 := hbyte 0x04
  have h5 := hbyte 0x05
  have h6 := hbyte 0x06
  have h7 := hbyte 0x07
  simp only [wide, half, Nat.reduceAdd]
  omega

theorem entryTakes_variantFields {formed : Nat → Nat} (hbyte : ∀ i, formed i < 256) :
    entryTakes variantFields formed first size.bytes = true ↔
      (Touched first size 0x02 1 → 1 ≤ formed 0x02 ∧ formed 0x02 ≤ 250) ∧
      (Touched first size 0x04 4 → formed 0x07 < 16) ∧
      ∀ b, Touched first size b 1 → b = 0x03 ∨ 0x08 ≤ b → formed b = 0 := by
  simp only [entryTakes_iff, reserved_variantFields]
  simp only [variantFields, touchedHold_cons, touchedHold_nil, inRange_iff, leRead_one,
    leRead_four, operateMap_lt_iff hbyte, decide_eq_true_eq, implies_true, true_and,
    and_true, and_assoc]

/-! ### Line parameters -/

theorem reserved_paramFields (b : Nat) :
    Reserved paramFields b ↔ b = 0x0F ∨ b = 0x12 ∨ b = 0x13 ∨ 0x18 ≤ b := by
  simp only [paramFields, reserved_cons, reserved_nil, Nat.reduceAdd, and_true]
  omega

variable (s : State)

theorem freeFrom_iff (n : Nat) :
    s.freeFrom n = true ↔ ∀ k : StationNo, n ≤ k.val → (s.entry k).pallet = none := by
  simp [State.freeFrom, allStations, MapEntry.occupied, Decidable.or_iff_not_imp_left]

/-- What holds of every record of the pallet table holds of every pallet (R1). -/
theorem pallets_all_iff (test : Pallet → Bool) :
    s.tracking.pallets.toList.all test = true ↔ ∀ p, test (s.pallet p) = true := by
  simp only [List.all_eq_true, Vector.mem_toList_iff, Vector.mem_iff_getElem, State.pallet]
  constructor
  · exact fun h p => h _ ⟨p.val, p.isLt, rfl⟩
  · rintro h _ ⟨i, hi, rfl⟩
    exact h ⟨i, hi⟩

theorem variantsBelow_iff (n : Nat) :
    s.variantsBelow n = true ↔
      ∀ p, (s.pallet p).service ≠ .out → (s.pallet p).variant.val < n := by
  rw [State.variantsBelow, pallets_all_iff]
  simp [Decidable.or_iff_not_imp_left]

theorem offsetsWithin_iff (limit : Nat) :
    s.offsetsWithin limit = true ↔
      ∀ p, (s.pallet p).offset.x.natAbs ≤ limit ∧ (s.pallet p).offset.y.natAbs ≤ limit ∧
        (s.pallet p).offset.z.natAbs ≤ limit := by
  rw [State.offsetsWithin, pallets_all_iff]
  simp [Axes.any, offsetClamped, and_assoc]

theorem lawTakes_iff (p : LineParams) :
    s.lawTakes p first size.bytes = true ↔
      (Touched first size 0x00 1 → s.freeFrom p.stationCount.val = true) ∧
      (Touched first size 0x01 1 → s.tracking.queue.length ≤ p.returnCap) ∧
      (Touched first size 0x02 1 → s.variantsBelow p.variantCount.val = true) ∧
      (Touched first size 0x14 4 → s.offsetsWithin p.offsetLimit = true) := by
  simp only [State.lawTakes, Bool.and_eq_true, untouched_or_iff, decide_eq_true_eq, and_assoc]

/-- A field in its range, with a law check that says in its range what is asked of the account (R180, R181, R182). -/
theorem range_and_law_iff {touched low high law asked : Prop} (h : low → high → (law ↔ asked)) :
    (touched → low ∧ high ∧ asked) ↔ (touched → low ∧ high) ∧ (touched → law) := by
  rw [← imp_and, and_assoc]
  exact imp_congr_right fun _ =>
    and_congr_right fun hlow => and_congr_right fun hhigh => (h hlow hhigh).symm

/-- Checks 2 to 4 of a line parameter write, of the block as formed (R177, R180, R181, R182). -/
theorem paramChecks_iff {formed : Nat → Nat} (hbyte : ∀ i, formed i < 256) :
    (entryTakes paramFields formed first size.bytes &&
        s.lawTakes (.ofBytes formed) first size.bytes) = true ↔
      (Touched first size 0x00 1 → 3 ≤ formed 0x00 ∧ formed 0x00 ≤ 28 ∧
        ∀ k : StationNo, formed 0x00 ≤ k.val → (s.entry k).pallet = none) ∧
      (Touched first size 0x01 1 → 1 ≤ formed 0x01 ∧ formed 0x01 ≤ 36 ∧
        s.tracking.queue.length ≤ formed 0x01) ∧
      (Touched first size 0x02 1 → 1 ≤ formed 0x02 ∧ formed 0x02 ≤ 6 ∧
        ∀ p, (s.pallet p).service ≠ .out → (s.pallet p).variant.val < formed 0x02) ∧
      (Touched first size 0x03 1 → formed 0x03 ≤ 15) ∧
      (Touched first size 0x04 2 → 1 ≤ half formed 0x04) ∧
      (Touched first size 0x06 2 → 1 ≤ half formed 0x06) ∧
      (Touched first size 0x08 1 → 1 ≤ formed 0x08 ∧ formed 0x08 ≤ 15) ∧
      (Touched first size 0x09 1 → 1 ≤ formed 0x09 ∧ formed 0x09 ≤ 15) ∧
      (Touched first size 0x0A 1 → 1 ≤ formed 0x0A ∧ formed 0x0A ≤ 31) ∧
      (Touched first size 0x0B 1 → 1 ≤ formed 0x0B ∧ formed 0x0B ≤ 31) ∧
      (Touched first size 0x0C 2 → 1 ≤ half formed 0x0C) ∧
      (Touched first size 0x0E 1 → 1 ≤ formed 0x0E ∧ formed 0x0E ≤ 15) ∧
      (Touched first size 0x10 2 → 1 ≤ half formed 0x10 ∧ half formed 0x10 ≤ 2000) ∧
      (Touched first size 0x14 4 → 1 ≤ wide formed 0x14 ∧ wide formed 0x14 ≤ 50000 ∧
        ∀ p, (s.pallet p).offset.x.natAbs ≤ wide formed 0x14 ∧
          (s.pallet p).offset.y.natAbs ≤ wide formed 0x14 ∧
          (s.pallet p).offset.z.natAbs ≤ wide formed 0x14) ∧
      ∀ b, Touched first size b 1 → b = 0x0F ∨ b = 0x12 ∨ b = 0x13 ∨ 0x18 ≤ b → formed b = 0 := by
  have hstations (_ : 3 ≤ formed 0x00) (hmax : formed 0x00 ≤ 28) :
      s.freeFrom (LineParams.ofBytes formed).stationCount.val = true ↔
        ∀ k : StationNo, formed 0x00 ≤ k.val → (s.entry k).pallet = none := by
    have hval : (LineParams.ofBytes formed).stationCount.val = formed 0x00 :=
      Nat.mod_eq_of_lt (Nat.lt_succ_of_le hmax)
    rw [hval, freeFrom_iff]
  have hcap (_ : 1 ≤ formed 0x01) (_ : formed 0x01 ≤ 36) :
      s.tracking.queue.length ≤ (LineParams.ofBytes formed).returnCap ↔
        s.tracking.queue.length ≤ formed 0x01 := .rfl
  have hvariants (_ : 1 ≤ formed 0x02) (hmax : formed 0x02 ≤ 6) :
      s.variantsBelow (LineParams.ofBytes formed).variantCount.val = true ↔
        ∀ p, (s.pallet p).service ≠ .out → (s.pallet p).variant.val < formed 0x02 := by
    have hval : (LineParams.ofBytes formed).variantCount.val = formed 0x02 :=
      Nat.mod_eq_of_lt (Nat.lt_succ_of_le hmax)
    rw [hval, variantsBelow_iff]
  have hoffsets (_ : 1 ≤ wide formed 0x14) (_ : wide formed 0x14 ≤ 50000) :
      s.offsetsWithin (LineParams.ofBytes formed).offsetLimit = true ↔
        ∀ p, (s.pallet p).offset.x.natAbs ≤ wide formed 0x14 ∧
          (s.pallet p).offset.y.natAbs ≤ wide formed 0x14 ∧
          (s.pallet p).offset.z.natAbs ≤ wide formed 0x14 := by
    have hval : (LineParams.ofBytes formed).offsetLimit = wide formed 0x14 := leRead_four formed 0x14
    rw [hval, offsetsWithin_iff]
  rw [range_and_law_iff hstations, range_and_law_iff hcap, range_and_law_iff hvariants,
    range_and_law_iff hoffsets]
  simp only [Bool.and_eq_true, entryTakes_iff, reserved_paramFields, lawTakes_iff]
  simp only [paramFields, touchedHold_cons, touchedHold_nil, inRange_iff, leRead_one, leRead_two,
    leRead_four, half_le hbyte, Nat.zero_le, true_and, and_true]
  exact iff_of_eq (by ac_rfl)

theorem formedParams_byte_lt (c : Word) (i : Nat) :
    formBytes s.config.params.byte first size c i < 256 :=
  formBytes_lt _ _ _ _ i (params_byte_lt _ i)

/-- The low bytes of a number, read back, are the number reduced to them (00, Byte order). -/
theorem leRead_of_byteOf (b : Nat → Nat) (n len : Nat)
    (h : ∀ i, i < len → b (first + i) = byteOf n i) : leRead b first len = n % 256 ^ len := by
  induction len with
  | zero => exact (Nat.mod_one n).symm
  | succ len ih =>
    have hpow : 2 ^ (8 * len) = 256 ^ len := Nat.pow_mul 2 8 len
    rw [leRead, ih fun i hi => h i (Nat.lt_succ_of_lt hi), h len (Nat.lt_succ_self len), byteOf,
      hpow, Nat.pow_succ, Nat.mod_mul, Nat.mul_comm]

/-- A field written whole holds the number written (R180). -/
theorem leRead_formBytes_whole (old : Nat → Nat) (c : Word) (hc : c.toNat < 256 ^ size.bytes) :
    leRead (formBytes old first size c) first size.bytes = c.toNat := by
  rw [leRead_of_byteOf first _ c.toNat _ fun i hi => ?_, Nat.mod_eq_of_lt hc]
  simp [formBytes, hi]

theorem formBytes_one (old : Nat → Nat) (c : Word) (hc : c.toNat < 256) :
    formBytes old first .one c first = c.toNat :=
  (leRead_one _ first).symm.trans (leRead_formBytes_whole first .one old c hc)

theorem wide_formBytes_four (old : Nat → Nat) (c : Word) :
    wide (formBytes old first .four c) first = c.toNat :=
  (leRead_four _ first).symm.trans (leRead_formBytes_whole first .four old c c.isLt)

/-- A write before the first reserved byte, or within OFFSET_LIMIT, has no reserved byte to be zero (R177). -/
theorem reserved_unwritten_iff {formed : Nat → Nat}
    (hplace : first + size.bytes ≤ 0x0F ∨ 0x14 ≤ first ∧ first + size.bytes ≤ 0x18) :
    (∀ b, Touched first size b 1 → b = 0x0F ∨ b = 0x12 ∨ b = 0x13 ∨ 0x18 ≤ b → formed b = 0) ↔
      True :=
  iff_true_intro fun b ⟨hlow, hhigh⟩ hreserved => by omega

/-- STATION_COUNT, RETURN_CAP and VARIANT_COUNT, each written alone (R177, R181, R182). -/
theorem boundedByteWrites_iff (c : Word) (hc : c.toNat < 256) :
    (s.paramsTake 0x00 .one c = true ↔
      3 ≤ c.toNat ∧ c.toNat ≤ 28 ∧ ∀ k : StationNo, c.toNat ≤ k.val → (s.entry k).pallet = none) ∧
    (s.paramsTake 0x01 .one c = true ↔
      1 ≤ c.toNat ∧ c.toNat ≤ 36 ∧ s.tracking.queue.length ≤ c.toNat) ∧
    (s.paramsTake 0x02 .one c = true ↔
      1 ≤ c.toNat ∧ c.toNat ≤ 6 ∧
        ∀ p, (s.pallet p).service ≠ .out → (s.pallet p).variant.val < c.toNat) := by
  have hchecks (first : Nat) :=
    paramChecks_iff first .one s (formedParams_byte_lt first .one s c)
  refine ⟨(hchecks 0x00).trans ?_, (hchecks 0x01).trans ?_, (hchecks 0x02).trans ?_⟩
  all_goals
    rw [formBytes_one _ _ _ hc, reserved_unwritten_iff _ _ (by decide)]
    simp [Size.bytes]

/-- OFFSET_LIMIT written alone (R177, R182). -/
theorem offsetLimitWrite_iff (c : Word) :
    s.paramsTake 0x14 .four c = true ↔
      1 ≤ c.toNat ∧ c.toNat ≤ 50000 ∧
        ∀ p, (s.pallet p).offset.x.natAbs ≤ c.toNat ∧ (s.pallet p).offset.y.natAbs ≤ c.toNat ∧
          (s.pallet p).offset.z.natAbs ≤ c.toNat := by
  refine (paramChecks_iff 0x14 .four s (formedParams_byte_lt 0x14 .four s c)).trans ?_
  rw [wide_formBytes_four, reserved_unwritten_iff _ _ (by decide)]
  simp [Size.bytes]

/-- Settles O35: the four bounded parameters written alone, then any write of each block, all from the checks of the entry as formed. -/
theorem parameterLaws : Obligations.ParameterLaws := by
  intro s c
  refine ⟨boundedByteWrites_iff s c, offsetLimitWrite_iff s c, fun first size =>
    ⟨paramChecks_iff first size s (formedParams_byte_lt first size s c), fun k => ?_, fun v => ?_⟩⟩
  · exact entryTakes_descriptorFields first size
      fun i => formBytes_lt _ _ _ _ i (descriptor_byte_lt _ i)
  · exact entryTakes_variantFields first size
      fun i => formBytes_lt _ _ _ _ i (variant_byte_lt _ i)

end Sys2Proof.Machine.ConfigChecks
end

section
/-! SUPPORT. The flag positions of a word, and the interrupt output over them (R186, R189). -/

namespace Sys2Proof.Machine.Interrupt

/-- Each of the 22 positions of the flag word carries a flag (R186). -/
theorem exists_flag_bit_eq : ∀ i < 22, ∃ f : Flag, f.bit = i
  | 0, _ => ⟨.refused, rfl⟩
  | 1, _ => ⟨.reportOverrun, rfl⟩
  | 2, _ => ⟨.stateChange, rfl⟩
  | 3, _ => ⟨.cycleFailed, rfl⟩
  | 4, _ => ⟨.indexDone, rfl⟩
  | 5, _ => ⟨.slowIndex, rfl⟩
  | 6, _ => ⟨.stationWarn, rfl⟩
  | 7, _ => ⟨.overrun, rfl⟩
  | 8, _ => ⟨.noAck, rfl⟩
  | 9, _ => ⟨.captureOverwrite, rfl⟩
  | 10, _ => ⟨.tagMismatch, rfl⟩
  | 11, _ => ⟨.presenceMismatch, rfl⟩
  | 12, _ => ⟨.patchOverflow, rfl⟩
  | 13, _ => ⟨.stepLimited, rfl⟩
  | 14, _ => ⟨.quarantined, rfl⟩
  | 15, _ => ⟨.alignAborted, rfl⟩
  | 16, _ => ⟨.alignCorrected, rfl⟩
  | 17, _ => ⟨.estop, rfl⟩
  | 18, _ => ⟨.driveFault, rfl⟩
  | 19, _ => ⟨.imageError, rfl⟩
  | 20, _ => ⟨.imageTimeout, rfl⟩
  | 21, _ => ⟨.indexDropped, rfl⟩
  | n + 22, hi => absurd hi (by omega)

/-- No bit of a word over the flag positions lies outside them, so a word that is not zero carries a flag. -/
theorem ne_zero_iff_exists_flag (w : BitVec 22) :
    w ≠ 0 ↔ ∃ f : Flag, w.getLsbD f.bit = true := by
  constructor
  · intro hw
    have hset : ∃ i, w.getLsbD i = true := by simpa [BitVec.zero_iff_eq_false] using hw
    obtain ⟨i, hi⟩ := hset
    obtain ⟨f, rfl⟩ := exists_flag_bit_eq i (BitVec.lt_of_getLsbD hi)
    exact ⟨f, hi⟩
  · rintro ⟨f, hf⟩ rfl
    simp at hf

/-- Settles O4: the output is asserted while the word of the flags that stand enabled is not zero. -/
theorem interruptFollows : Obligations.InterruptFollows := by
  intro s
  calc s.interrupt = true
      ↔ s.flagUnit.flags &&& s.flagUnit.enables ≠ 0 := bne_iff_ne
    _ ↔ ∃ f : Flag, (s.flagUnit.flags &&& s.flagUnit.enables).getLsbD f.bit = true :=
        ne_zero_iff_exists_flag _
    _ ↔ ∃ f : Flag, s.hasFlag f = true ∧ s.flagUnit.enables.getLsbD f.bit = true := by
        simp only [State.hasFlag, BitVec.getLsbD_and, Bool.and_eq_true]

end Sys2Proof.Machine.Interrupt
end

section
/-! SUPPORT. What one step does, by the queue of waiting commands (logs 2 and 22). -/

namespace Sys2Proof.Machine.Stepping

variable (s : State)

@[simp] theorem withPending_pending (q : List Instr) : (s.withPending q).pending = q := rfl

/-- Of two replacements of the queue the later one stands. -/
@[simp] theorem withPending_withPending (p q : List Instr) :
    (s.withPending p).withPending q = s.withPending q := rfl

variable {s}

/-- With no command waiting the block idles (log 2). -/
theorem step_of_pending_nil (h : s.pending = []) : step s = .next s := by
  simp only [step, h]

/-- With a command waiting, the one at the front runs on the state with the rest of the queue (log 2). -/
theorem step_of_pending_cons {c : Instr} {rest : List Instr} (h : s.pending = c :: rest) :
    step s = exec c (s.withPending rest) := by
  simp only [step, h]

/-- Settles O1: the queue put before the step is the one it takes its command from, and only the rest of it stays. -/
theorem stepRunsFront : Obligations.StepRunsFront := by
  refine ⟨fun c rest s => ?_, fun s => step_of_pending_nil⟩
  calc step (s.withPending (c :: rest))
      = exec c ((s.withPending (c :: rest)).withPending rest) :=
        step_of_pending_cons (withPending_pending s (c :: rest))
    _ = exec c (s.withPending rest) := by rw [withPending_withPending]

end Sys2Proof.Machine.Stepping
end

section
/-! SUPPORT. The map shift: what the unload exit and the move of the entries leave of every entry, record and queue position (R26, R27). -/

namespace Sys2Proof.Machine.Shifting

/-- The record of a pallet as it leaves the unload station (R26). -/
def exits (r : Pallet) : Pallet :=
  { r with
    laps := saturate Config.countMax r.laps
    block := if r.block = .empty then .empty else .reject
    service := if r.service = .quarantine then .out else r.service }

/-- The return queue once the pallet of the unload station has left it (R26). -/
def exitQueue (s : State) : List PalletNo :=
  match (s.entry s.unloadStation).pallet with
  | some u => if (s.pallet u).service = .inService then s.tracking.queue ++ [u] else s.tracking.queue
  | none => s.tracking.queue

/-- The pallet that leaves the unload station has a block it should have been rid of (R26). -/
def exitsLoaded (s : State) : Bool :=
  match (s.entry s.unloadStation).pallet with
  | some u => (s.pallet u).block != .empty
  | none => false

variable (s : State)

/-- The unload exit of a pallet: its record, the queue, and UNLOAD_MISSED (R26). -/
theorem unloadExit_of_some {u : PalletNo} (hu : (s.entry s.unloadStation).pallet = some u) :
    s.unloadExit =
      ((s.setPallet u (exits (s.pallet u))).addFaultIf (exitsLoaded s) .unloadMissed).setQueue
        (exitQueue s) := by
  simp only [State.unloadExit, exitQueue, exitsLoaded, hu]
  split
  · rw [State.addFaultIf_tracking]
    rfl
  · unfold State.addFaultIf
    split <;> rfl

/-- Nothing leaves an empty unload station (R26). -/
theorem unloadExit_of_none (hu : (s.entry s.unloadStation).pallet = none) : s.unloadExit = s := by
  simp only [State.unloadExit, hu]

/-- The unload exit, block by block. -/
theorem unloadExit_eq :
    s.unloadExit =
      { s with
        tracking :=
          { s.tracking with
            pallets := Vector.ofFn fun p =>
              if (s.entry s.unloadStation).pallet = some p then exits (s.pallet p) else s.pallet p
            queue := exitQueue s }
        line := (s.addFaultIf (exitsLoaded s) .unloadMissed).line } := by
  cases hu : (s.entry s.unloadStation).pallet with
  | none =>
    have hpallets : Vector.ofFn s.pallet = s.tracking.pallets := by
      ext i hi : 1
      simp [State.pallet]
    simp [unloadExit_of_none s hu, exitQueue, exitsLoaded, hu, State.addFaultIf, hpallets]
  | some u =>
    have hpallets : (Vector.ofFn fun p => if u = p then exits (s.pallet p) else s.pallet p) =
        s.tracking.pallets.set u.val (exits (s.pallet u)) := by
      ext i hi : 1
      rw [Vector.getElem_ofFn, Vector.getElem_set]
      simp only [Fin.ext_iff, State.pallet]
      split
      case isTrue hui => simp only [hui]
      case isFalse => rfl
    simp only [unloadExit_of_some s hu, Option.some.injEq, hpallets]
    unfold State.addFaultIf
    split <;> rfl

/-- The map shift moves the tracking unit alone, with UNLOAD_MISSED (R26, R27). -/
theorem mapShift_eq :
    s.mapShift =
      { s with
        tracking := s.mapShift.tracking
        line := (s.addFaultIf (exitsLoaded s) .unloadMissed).line } := by
  have hshift : s.mapShift = s.unloadExit.moveEntries := rfl
  rw [hshift, State.moveEntries, unloadExit_eq]

/-- The map, the records and the queue after the map shift (R26, R27). -/
theorem tracking_mapShift :
    s.mapShift.tracking =
      { map := Vector.ofFn fun k =>
          if k.val = 0 then { pallet := (exitQueue s).head?, status := .predicted }
          else if s.inLine k then (s.entry ⟨k.val - 1, by omega⟩).carried
          else s.entry k
        pallets := Vector.ofFn fun p =>
          if (s.entry s.unloadStation).pallet = some p then exits (s.pallet p) else s.pallet p
        queue := (exitQueue s).tail } := by
  have hshift : s.mapShift = s.unloadExit.moveEntries := rfl
  have hentry (k : StationNo) : s.unloadExit.entry k = s.entry k := by
    simp only [unloadExit_eq, State.entry]
  have hline (k : StationNo) : s.unloadExit.inLine k = s.inLine k := by
    rw [State.inLine, State.stationCount, unloadExit_eq, State.inLine, State.stationCount]
  rw [hshift, State.moveEntries]
  simp only [State.shiftedEntry, hentry, hline]
  rw [unloadExit_eq]

/-- Settles O20: the exit block by block, then the entries forward. -/
theorem mapShifted : Obligations.MapShifted := by
  intro s _ left exits' queue
  have hcarried (e : MapEntry) : e.carried =
      { pallet := e.pallet, status := if e.status = .uncertain then .uncertain else .predicted } := by
    rw [MapEntry.carried]
    cases e.status <;> rfl
  refine ⟨?_, mapShift_eq s⟩
  rw [tracking_mapShift]
  simp only [hcarried]
  rfl

end Sys2Proof.Machine.Shifting
end

section
/-! SUPPORT. What a trip that is taken does, block by block (R93, R94). -/

namespace Sys2Proof.Machine.Tripping

variable (s : State) (cause : TripCause)

/-- What a trip that is taken does before the line enters TRIPPED: the cause, an index in flight abandoned, an alignment attempt ended, the units stopped (R94). -/
def beforeTrip : State :=
  { s with
    line := { s.line with tripCause := cause }
    gate := if s.indexing then { s.gate.toIdle with frozen := true } else s.gate
    identity :=
      if s.line.state = .aligning then { s.identity with timer := s.identity.timer.stop }
      else s.identity
    monitor := s.stopUnits.monitor }

theorem trip_taken (h : s.lineIn [.setup, .tripped] = false) :
    s.trip cause = (beforeTrip s cause).enterLine .tripped := by
  have hindexing (c : Prop) [Decidable c] (x : State) :
      (if c then x.endAlignment else x).indexing = x.indexing := by split <;> rfl
  have hsame : { s with line := { s.line with tripCause := cause } }.indexing = s.indexing := rfl
  rw [State.trip, if_neg (by simp [h])]
  simp only [hindexing, hsame, beforeTrip]
  congr 1
  split <;> split <;> rfl

theorem lineIn_setup_tripped :
    s.lineIn [.setup, .tripped] = true ↔ s.line.state = .setup ∨ s.line.state = .tripped := by
  simp [State.lineIn]

/-- Settles O6: the entry to TRIPPED of the state that the trip has prepared, block by block. -/
theorem tripClaimed : Obligations.TripClaimed := by
  intro s cause
  split
  case isTrue h => exact State.trip_not_taken s cause ((lineIn_setup_tripped s).mpr h)
  case isFalse h =>
    have hchange : (s.line.state != .tripped) = true := bne_iff_ne.mpr fun ht => h (.inr ht)
    rw [trip_taken s cause (Bool.eq_false_iff.mpr (mt (lineIn_setup_tripped s).mp h))]
    apply State.ext_parts
    case station =>
      intro k
      simp only [State.station_enterLine, LineState.permitsEnables, Bool.and_false, Bool.false_and]
      simp [State.station, beforeTrip, State.stopUnits, State.mapStations]
    case line => simp [beforeTrip, LineState.endsStop]
    case gate => simp [beforeTrip, State.indexing, IndexGate.toIdle, MarkTimer.stop]
    case identity => simp [beforeTrip, MarkTimer.stop]
    case flagUnit =>
      rw [State.flagUnit_enterLine]
      simp only [beforeTrip, hchange]
      rfl
    case held => rw [State.held_enterLine]; rfl
    case entry => intro k; simp [State.entry, beforeTrip]
    case pallet => intro p; simp [State.pallet, beforeTrip]
    all_goals simp [beforeTrip]

end Sys2Proof.Machine.Tripping
end

section
/-! SUPPORT. The evaluation of a cycle: the line state and counts it leaves, the flags it sets, and what it leaves alone (R102 to R106). -/

namespace Sys2Proof.Machine.Completing

/-! ### What an evaluation leaves alone -/

/-- From s to t only the line, the enable outputs and the flags CYCLE_FAILED and STATE_CHANGE change. -/
structure Judged (s t : State) : Prop where
  rest : t = { s with line := t.line, flagUnit := t.flagUnit, monitor := t.monitor } := by rfl
  held : t.monitor.held = s.monitor.held := by rfl
  station : ∀ k, t.station k = { s.station k with enable := (t.station k).enable } := by
    intro _; rfl
  flags : ∀ f, f ≠ .cycleFailed → f ≠ .stateChange → t.hasFlag f = s.hasFlag f := by
    intro _ _ _; rfl
  unit : t.flagUnit = { s.flagUnit with flags := t.flagUnit.flags } := by rfl

variable {s t u : State}

theorem Judged.refl (s : State) : Judged s s := {}

theorem Judged.trans (h : Judged s t) (h' : Judged t u) : Judged s u where
  rest := by rw [h'.rest, h.rest]
  held := h'.held.trans h.held
  station k := by rw [h'.station, h.station]
  flags f hc hs := (h'.flags f hc hs).trans (h.flags f hc hs)
  unit := by rw [h'.unit, h.unit]

theorem Judged.gate (h : Judged s t) : t.gate = s.gate := by rw [h.rest]

theorem Judged.tracking (h : Judged s t) : t.tracking = s.tracking := by rw [h.rest]

theorem Judged.config (h : Judged s t) : t.config = s.config := by rw [h.rest]

theorem Judged.identity (h : Judged s t) : t.identity = s.identity := by rw [h.rest]

theorem Judged.classifier (h : Judged s t) : t.classifier = s.classifier := by rw [h.rest]

theorem Judged.pins (h : Judged s t) : t.pins = s.pins := by rw [h.rest]

theorem Judged.ite {c : Prop} [Decidable c] (ht : Judged s t) (hu : Judged s u) :
    Judged s (if c then t else u) := by
  split
  · exact ht
  · exact hu

theorem judged_withLine (line : LineController) : Judged s { s with line := line } := {}

theorem judged_cycleFailed : Judged s (s.raise .cycleFailed) where
  flags f hc _ := by simp [hc.symm]

theorem judged_enterLine (l : LineState) : Judged s (s.enterLine l) where
  rest := by
    apply State.ext_parts <;> intros <;> simp [State.entry, State.pallet, State.station]
  held := by simp
  station k := by simp
  flags f _ hs := by
    simp only [State.hasFlag, State.flagUnit_enterLine]
    unfold State.raiseIf
    split
    · exact (State.hasFlag_raise s _ f).trans (by simp [State.hasFlag, hs.symm])
    · rfl
  unit := by
    rw [State.flagUnit_enterLine]
    unfold State.raiseIf
    split <;> rfl

theorem judged_evaluateProducing (failed : Bool) : Judged s (s.evaluateProducing failed) := by
  refine .ite ?_ (judged_withLine _)
  refine Judged.trans (judged_withLine { s.line with failed := s.failedNext }) ?_
  refine Judged.trans (.ite (judged_enterLine .stopped) (.ite ?_ (.refl _))) judged_cycleFailed
  exact (judged_withLine _).trans (judged_enterLine _)

theorem judged_evaluateRestricted (failed : Bool) : Judged s (s.evaluateRestricted failed) := by
  refine .ite ?_ (.ite ((judged_withLine _).trans (judged_enterLine _)) (judged_withLine _))
  refine Judged.trans (judged_withLine { s.line with failed := s.failedNext, clean := 0 }) ?_
  exact Judged.trans (.ite (judged_enterLine .stopped) (.refl _)) judged_cycleFailed

/-- A cycle evaluation changes the line, the enable outputs and two flags alone (R102 to R106). -/
theorem judged_evaluateCycle : Judged s s.evaluateCycle := by
  unfold State.evaluateCycle
  refine Judged.trans (t := State.rotateCycle s.line.current _) ?_
    (.ite (judged_enterLine _) (.refl _))
  refine Judged.trans ?_ (judged_withLine _)
  split
  · exact judged_evaluateProducing _
  · exact judged_evaluateRestricted _
  all_goals exact .refl s

/-! ### The outcome -/

/-- The line state, the failed count and the clean count that a cycle's fault set leads to (R103, R104). -/
def verdict (s : State) (ending : BitVec 8) : LineState × Nat × Nat :=
  let count : Nat :=
    if s.line.failed + 1 ≤ s.config.params.failHalt then s.line.failed + 1
    else s.config.params.failHalt
  let restricted : Bool := s.line.state == .restricted
  if ending = 0 then
    if restricted = false then (.producing, 0, s.line.clean)
    else if s.line.clean + 1 = s.config.params.recoverCycles then (.producing, 0, 0)
    else (.restricted, 0, s.line.clean + 1)
  else if s.config.params.failHalt ≤ count then
    (.stopped, count, if restricted = true then 0 else s.line.clean)
  else if restricted = true ∨ s.config.params.failRestrict ≤ count then
    (.restricted, count, 0)
  else (.producing, count, s.line.clean)

theorem failedNext_eq : s.failedNext =
    if s.line.failed + 1 ≤ s.config.params.failHalt then s.line.failed + 1
    else s.config.params.failHalt := Nat.min_def

/-- What the evaluation makes of a cycle that ends in PRODUCING or RESTRICTED, before the sets are rotated: the line state and counts of the verdict, and the two flags (R103, R104). -/
structure Verdict (s t : State) (failed : Bool) (v : LineState × Nat × Nat) : Prop where
  line : t.line = { s.line with
    state := v.1, failed := v.2.1, clean := v.2.2,
    stopPending := s.line.stopPending && !v.1.endsStop }
  cycleFailed : t.hasFlag .cycleFailed = (s.hasFlag .cycleFailed || failed)
  stateChange : t.hasFlag .stateChange = (s.hasFlag .stateChange || v.1 != s.line.state)

theorem hasFlag_stateChange_enterLine (l : LineState) :
    (s.enterLine l).hasFlag .stateChange =
      (s.hasFlag .stateChange || s.line.state != l) := by
  simp only [State.hasFlag, State.flagUnit_enterLine]
  cases h : s.line.state != l with
  | false => simp [State.raiseIf]
  | true => exact (State.hasFlag_raise s .stateChange .stateChange).trans (by simp)

theorem hasFlag_cycleFailed_enterLine (l : LineState) :
    (s.enterLine l).hasFlag .cycleFailed = s.hasFlag .cycleFailed := by
  simp only [State.hasFlag, State.flagUnit_enterLine]
  cases h : s.line.state != l with
  | false => simp [State.raiseIf]
  | true => exact (State.hasFlag_raise s .stateChange .cycleFailed).trans (by simp [State.hasFlag])

/-- The same outcome of a failed cycle (R103, R104). -/
theorem Verdict.fails {v : LineState × Nat × Nat} (h : Verdict s t false v) :
    Verdict s (t.raise .cycleFailed) true v where
  line := h.line
  cycleFailed := by rw [State.hasFlag_raise]; simp
  stateChange := by rw [State.hasFlag_raise, ← h.stateChange]; simp

variable (s) in
/-- New counts, and a line state entered (R103, R104). -/
theorem verdict_of_enterLine (l : LineState) (failed clean : Nat) :
    Verdict s ({ s with line := { s.line with failed := failed, clean := clean } }.enterLine l) false
      (l, failed, clean) where
  line := by rw [State.line_enterLine]
  cycleFailed := by rw [hasFlag_cycleFailed_enterLine, Bool.or_false]; rfl
  stateChange := by rw [hasFlag_stateChange_enterLine, bne_comm]; rfl

variable (s) in
/-- New counts, and the line state as it is (R103, R104). -/
theorem verdict_of_counts (failed clean : Nat) (hs : s.line.state.endsStop = false) :
    Verdict s { s with line := { s.line with failed := failed, clean := clean } } false
      (s.line.state, failed, clean) where
  line := by simp [hs]
  cycleFailed := (Bool.or_false _).symm
  stateChange := by rw [bne_self_eq_false, Bool.or_false]; rfl

theorem verdict_evaluateProducing (h : s.line.state = .producing) (ending : BitVec 8) :
    Verdict s (s.evaluateProducing (ending != 0)) (ending != 0) (verdict s ending) := by
  have hnot : (s.line.state == .restricted) = false := by rw [h]; rfl
  have hends : s.line.state.endsStop = false := by rw [h]; rfl
  by_cases hz : ending = 0
  · have hv : verdict s ending = (s.line.state, 0, s.line.clean) := by simp [verdict, hz, h]
    rw [hv, hz]
    exact verdict_of_counts s 0 s.line.clean hends
  · have hfailed : (ending != 0) = true := bne_iff_ne.mpr hz
    simp only [verdict, State.evaluateProducing, hfailed, if_true, if_neg hz, hnot, failedNext_eq,
      Bool.false_eq_true, if_false, false_or]
    generalize (if s.line.failed + 1 ≤ s.config.params.failHalt then s.line.failed + 1
      else s.config.params.failHalt) = count
    split
    case isTrue => exact (verdict_of_enterLine s .stopped count s.line.clean).fails
    case isFalse =>
      split
      case isTrue => exact (verdict_of_enterLine s .restricted count 0).fails
      case isFalse => exact h ▸ (verdict_of_counts s count s.line.clean hends).fails

theorem verdict_evaluateRestricted (h : s.line.state = .restricted) (ending : BitVec 8) :
    Verdict s (s.evaluateRestricted (ending != 0)) (ending != 0) (verdict s ending) := by
  have hyes : (s.line.state == .restricted) = true := by rw [h]; rfl
  have hends : s.line.state.endsStop = false := by rw [h]; rfl
  by_cases hz : ending = 0
  · by_cases hrecovers : s.line.clean + 1 = s.config.params.recoverCycles
    · have hv : verdict s ending = (.producing, 0, 0) := by simp [verdict, hz, h, hrecovers]
      have hx : s.evaluateRestricted (ending != 0) =
          { s with line := { s.line with failed := 0, clean := 0 } }.enterLine .producing := by
        rw [hz]
        exact if_pos hrecovers
      rw [hv, hx, hz]
      exact verdict_of_enterLine s .producing 0 0
    · have hv : verdict s ending = (s.line.state, 0, s.line.clean + 1) := by
        simp [verdict, hz, h, hrecovers]
      have hx : s.evaluateRestricted (ending != 0) =
          { s with line := { s.line with failed := 0, clean := s.line.clean + 1 } } := by
        rw [hz]
        exact if_neg hrecovers
      rw [hv, hx, hz]
      exact verdict_of_counts s 0 (s.line.clean + 1) hends
  · have hfailed : (ending != 0) = true := bne_iff_ne.mpr hz
    simp only [verdict, State.evaluateRestricted, hfailed, if_true, if_neg hz, hyes, failedNext_eq,
      true_or]
    generalize (if s.line.failed + 1 ≤ s.config.params.failHalt then s.line.failed + 1
      else s.config.params.failHalt) = count
    split
    case isTrue => exact (verdict_of_enterLine s .stopped count 0).fails
    case isFalse => exact h ▸ (verdict_of_counts s count 0 hends).fails

/-- The verdict stops the line, or leaves it in PRODUCING or RESTRICTED (R103, R104). -/
theorem verdict_state (ending : BitVec 8) :
    (verdict s ending).1 = .producing ∨ (verdict s ending).1 = .restricted ∨
      (verdict s ending).1 = .stopped := by
  unfold verdict
  extract_lets
  split_ifs <;> simp

/-- A cycle that ends in PRODUCING or RESTRICTED: its set rotated, the cycle counted, and STOPPED where a stop was pending (R102 to R106). -/
structure Evaluated (s t : State) : Prop where
  line : t.line =
    { state := if s.line.stopPending then .stopped else (verdict s s.line.current).1
      tripCause := s.line.tripCause
      stopPending := false
      failed := (verdict s s.line.current).2.1
      clean := (verdict s s.line.current).2.2
      cycle := s.line.cycle + 1
      current := 0
      last := s.line.current }
  cycleFailed : t.hasFlag .cycleFailed = (s.hasFlag .cycleFailed || s.line.current != 0)
  stateChange : t.hasFlag .stateChange = (s.hasFlag .stateChange || t.line.state != s.line.state)

/-- The verdict of a cycle, and what a pending stop makes of it (R102 to R106). -/
theorem Verdict.evaluated (h : Verdict s t (s.line.current != 0) (verdict s s.line.current))
    (hs : s.line.state = .producing ∨ s.line.state = .restricted) :
    Evaluated s (State.rotateCycle s.line.current t).applyStopPending := by
  obtain ⟨hline, hfailed, hchange⟩ := h
  have hflag (f : Flag) : (State.rotateCycle s.line.current t).hasFlag f = t.hasFlag f := rfl
  have hrotated : (State.rotateCycle s.line.current t).line =
      { t.line with last := s.line.current, current := 0, cycle := t.line.cycle + 1 } := rfl
  generalize State.rotateCycle s.line.current t = r at hflag hrotated
  rw [hline] at hrotated
  have hstopped (l : LineState) (hl : l = .stopped) : (l != s.line.state) = true := by
    rcases hs with h | h <;> simp [hl, h]
  unfold State.applyStopPending
  split
  case isTrue hpending =>
    obtain ⟨hpending, hin⟩ := Bool.and_eq_true_iff.mp hpending
    rw [hrotated, Bool.and_eq_true] at hpending
    have hline' : (r.enterLine .stopped).line.state = .stopped := by rw [State.line_enterLine]
    refine ⟨?_, ?_, ?_⟩
    · rw [State.line_enterLine, hrotated, if_pos hpending.1]
      simp [LineState.endsStop]
    · rw [hasFlag_cycleFailed_enterLine, hflag, hfailed]
    · have hmoved : (r.line.state != .stopped) = true := by
        rw [bne_iff_ne]
        intro h
        simp [State.lineIn, h] at hin
      rw [hline', hasFlag_stateChange_enterLine, hstopped _ rfl, hmoved, Bool.or_true, Bool.or_true]
  case isFalse hnot =>
    have hstate : (if s.line.stopPending then .stopped else (verdict s s.line.current).1) =
        (verdict s s.line.current).1 := by
      split
      case isFalse => rfl
      case isTrue hp =>
        rcases verdict_state (s := s) s.line.current with hv | hv | hv
        · simp [hrotated, hp, hv, LineState.endsStop, State.lineIn] at hnot
        · simp [hrotated, hp, hv, LineState.endsStop, State.lineIn] at hnot
        · exact hv.symm
    have hpending : (s.line.stopPending && !(verdict s s.line.current).1.endsStop) = false := by
      rcases verdict_state (s := s) s.line.current with hv | hv | hv
      · simpa [hrotated, hv, LineState.endsStop, State.lineIn] using hnot
      · simpa [hrotated, hv, LineState.endsStop, State.lineIn] using hnot
      · simp [hv, LineState.endsStop]
    refine ⟨?_, ?_, ?_⟩
    · rw [hrotated, hstate, hpending]
    · rw [hflag, hfailed]
    · rw [hflag, hchange, hrotated]

theorem evaluated_evaluateCycle (hs : s.line.state = .producing ∨ s.line.state = .restricted) :
    Evaluated s s.evaluateCycle := by
  refine Verdict.evaluated ?_ hs
  rcases hs with h | h
  · simp only [h]
    exact verdict_evaluateProducing h _
  · simp only [h]
    exact verdict_evaluateRestricted h _

end Sys2Proof.Machine.Completing
end

section
/-! SUPPORT. The ungauged accounting beside the blocks it does not read, and the parts of an index completion one after the other (R45, R118, R138). -/

namespace Sys2Proof.Machine.Completing

open Shifting

/-! ### The ungauged accounting beside other changes -/

/-- A change of blocks that the quarantine claim and the ungauged accounting neither read nor write. -/
structure Beside (m : State → State) : Prop where
  pallet : ∀ s p, (m s).pallet p = s.pallet p := by intro _ _; rfl
  queue : ∀ s, (m s).tracking.queue = s.tracking.queue := by intro _; rfl
  config : ∀ s, (m s).config = s.config := by intro _; rfl
  setPallet : ∀ s p r, (m s).setPallet p r = m (s.setPallet p r) := by intro _ _ _; rfl
  setQueue : ∀ s q, (m s).setQueue q = m (s.setQueue q) := by intro _ _; rfl
  raise : ∀ s, (m s).raise .quarantined = m (s.raise .quarantined)

variable {m : State → State} (h : Beside m) (s : State)
include h

theorem Beside.quarantineClaim (p : PalletNo) :
    (m s).quarantineClaim p = m (s.quarantineClaim p) := by
  have hpallet (x : State) : (m x).quarantinePallet p = m (x.quarantinePallet p) := by
    simp only [State.quarantinePallet, State.queued, State.unqueue, State.setService, h.queue,
      h.setQueue, h.pallet, h.setPallet]
    exact (apply_ite m _ _ _).symm
  simp only [State.quarantineClaim, h.pallet, h.raise, hpallet]
  exact (apply_ite m _ _ _).symm

theorem Beside.countUngauged (p : PalletNo) : (m s).countUngauged p = m (s.countUngauged p) := by
  simp only [State.countUngauged, h.pallet, h.config, h.setPallet, h.quarantineClaim,
    ← apply_ite m]

/-- The accounting is the same beside the change, for the pallet that stands at the gauge station now (R138). -/
theorem Beside.ungaugedAccounting (leaving : Option PalletNo)
    (hstands : (m s).gaugedPallet = s.gaugedPallet) :
    (m s).ungaugedAccounting leaving = m (s.ungaugedAccounting leaving) := by
  have hcounted : (m s).forPallet leaving State.countUngauged =
      m (s.forPallet leaving State.countUngauged) := by
    cases leaving with
    | none => rfl
    | some p => exact h.countUngauged s p
  have hcleared (x : State) (p : Option PalletNo) :
      (m x).forPallet p State.clearGauged = m (x.forPallet p State.clearGauged) := by
    cases p with
    | none => rfl
    | some p => simp only [State.forPallet, State.clearGauged, h.pallet, h.setPallet]
  rw [State.ungaugedAccounting, hcounted, hstands, hcleared]
  rfl

end Sys2Proof.Machine.Completing

namespace Sys2Proof.Machine.Completing

open Shifting

/-- From s to t only the pallet records, the queue and the flag QUARANTINED change. -/
structure Accounted (s t : State) : Prop where
  rest : t =
    { s with
      tracking := { s.tracking with pallets := t.tracking.pallets, queue := t.tracking.queue }
      flagUnit := { s.flagUnit with flags := t.flagUnit.flags } } := by rfl
  flags : ∀ f, f ≠ .quarantined → t.hasFlag f = s.hasFlag f := by intro _ _; rfl

variable {s t u : State}

theorem Accounted.trans (h : Accounted s t) (h' : Accounted t u) : Accounted s u where
  rest := by rw [h'.rest, h.rest]
  flags f hf := (h'.flags f hf).trans (h.flags f hf)

theorem Accounted.ite {c : Prop} [Decidable c] (ht : Accounted s t) (hu : Accounted s u) :
    Accounted s (if c then t else u) := by
  split
  · exact ht
  · exact hu

theorem accounted_setPallet (p : PalletNo) (r : Pallet) : Accounted s (s.setPallet p r) := {}

theorem accounted_quarantineClaim (p : PalletNo) : Accounted s (s.quarantineClaim p) := by
  have hraise : Accounted s (s.raise .quarantined) := { flags := fun f hf => by simp [hf.symm] }
  have hunqueue (x : State) : Accounted x (x.unqueue p) := {}
  refine .ite (hraise.trans (.ite ?_ (accounted_setPallet _ _))) hraise
  exact (hunqueue _).trans (accounted_setPallet _ _)

/-- The ungauged accounting changes the records, the queue and one flag alone (R138). -/
theorem accounted_ungaugedAccounting (leaving : Option PalletNo) :
    Accounted s (s.ungaugedAccounting leaving) := by
  have hcounted : Accounted s (s.forPallet leaving State.countUngauged) := by
    cases leaving with
    | none => exact {}
    | some p =>
      exact .ite {} (.ite ((accounted_setPallet _ _).trans (accounted_quarantineClaim _))
        (accounted_setPallet _ _))
  rw [State.ungaugedAccounting]
  cases s.gaugedPallet with
  | none => exact hcounted
  | some p => exact hcounted.trans (accounted_setPallet _ _)

/-! ### A completion up to its evaluation -/

/-- The gate as a completion leaves it (R45, R46). -/
def completedGate (g : IndexGate) : IndexGate :=
  { g.toIdle with capture := g.capture.take g.timer.count }

theorem gateCompletion_eq :
    s.gateCompletion =
      { s with
        gate := completedGate s.gate
        flagUnit := ((s.raiseIf s.gate.capture.valid .captureOverwrite).raise .indexDone).flagUnit } := by
  unfold State.gateCompletion State.raiseIf
  dsimp only
  split <;> rfl

/-- The state up to which a completion counts: the gate idle, the map shifted and checked against presence (R45, R118). -/
def checkedState (s : State) : State := s.gateCompletion.mapShift.presenceCheck

/-- Some entry disagrees with the presence of its station after the shift (R118). -/
def mismatched (s : State) : Bool := allStations.any s.mapShift.presenceDisagrees

theorem line_addFaultIf (c : Bool) (f : CycleFault) :
    (s.addFaultIf c f).line =
      { s.line with
        current := if c then s.line.current ||| BitVec.twoPow 8 f.bit else s.line.current } := by
  cases c <;> rfl

theorem flagUnit_raiseIf (c : Bool) (f : Flag) :
    (s.raiseIf c f).flagUnit =
      { s.flagUnit with
        flags := if c then s.flagUnit.flags ||| BitVec.twoPow 22 f.bit else s.flagUnit.flags } := by
  cases c <;> rfl

/-- The gate and the flags have no part in the map shift. -/
theorem mapShift_beside (g : IndexGate) (f : FlagUnit) :
    { s with gate := g, flagUnit := f }.mapShift = { s.mapShift with gate := g, flagUnit := f } := by
  have htracking : { s with gate := g, flagUnit := f }.mapShift.tracking = s.mapShift.tracking := by
    rw [tracking_mapShift, tracking_mapShift]
    rfl
  have hloaded : exitsLoaded { s with gate := g, flagUnit := f } = exitsLoaded s := rfl
  rw [mapShift_eq, htracking, hloaded, mapShift_eq s]
  simp only [line_addFaultIf]

theorem presenceCheck_eq :
    s.presenceCheck =
      { s with
        tracking := { s.tracking with map := Vector.ofFn fun k => s.checkedEntry k }
        line := (s.addFaultIf (allStations.any s.presenceDisagrees) .presenceMismatch).line
        flagUnit :=
          (s.raiseIf (allStations.any s.presenceDisagrees) .presenceMismatch).flagUnit } := by
  unfold State.presenceCheck
  generalize (Vector.ofFn fun k => s.checkedEntry k) = map
  cases allStations.any s.presenceDisagrees <;> rfl

/-- The gate and the flags have no part in the check of an entry against presence. -/
theorem presenceCheck_beside (g : IndexGate) (f : FlagUnit) :
    { s with gate := g, flagUnit := f }.presenceCheck =
      { s with
        gate := g
        tracking := { s.tracking with map := Vector.ofFn fun k => s.checkedEntry k }
        line := (s.addFaultIf (allStations.any s.presenceDisagrees) .presenceMismatch).line
        flagUnit :=
          ({ s with flagUnit := f }.raiseIf (allStations.any s.presenceDisagrees)
            .presenceMismatch).flagUnit } := by
  have hentry (k : StationNo) :
      { s with gate := g, flagUnit := f }.checkedEntry k = s.checkedEntry k := rfl
  have hdisagrees :
      { s with gate := g, flagUnit := f }.presenceDisagrees = s.presenceDisagrees := rfl
  rw [presenceCheck_eq]
  simp only [hentry, hdisagrees, line_addFaultIf, flagUnit_raiseIf]

theorem checkedState_eq :
    checkedState s =
      { s with
        gate := completedGate s.gate
        tracking :=
          { s.mapShift.tracking with map := Vector.ofFn fun k => s.mapShift.checkedEntry k }
        line := ((s.addFaultIf (exitsLoaded s) .unloadMissed).addFaultIf (mismatched s)
          .presenceMismatch).line
        flagUnit := (((s.raiseIf s.gate.capture.valid .captureOverwrite).raise .indexDone).raiseIf
          (mismatched s) .presenceMismatch).flagUnit } := by
  rw [checkedState, gateCompletion_eq, mapShift_beside, presenceCheck_beside, mismatched]
  rw [mapShift_eq]
  simp only [line_addFaultIf, flagUnit_raiseIf]

end Sys2Proof.Machine.Completing
end

section
/-! SUPPORT. An index completion taken whole (R45, R48, R102 to R106, R118, R138). -/

namespace Sys2Proof.Machine.Completing

open Shifting

variable {s : State}

/-! ### Up to the evaluation -/

/-- The gate, the map and the line given, and flags set: what a completion changes besides the accounting. -/
def withCompletion (g : IndexGate) (map : Vector MapEntry 28) (line : LineController)
    (flags : BitVec 22) (x : State) : State :=
  { x with
    gate := g
    tracking := { x.tracking with map := map }
    line := line
    flagUnit := { x.flagUnit with flags := x.flagUnit.flags ||| flags } }

theorem beside_withCompletion (g : IndexGate) (map : Vector MapEntry 28) (line : LineController)
    (flags : BitVec 22) : Beside (withCompletion g map line flags) where
  raise x := by
    have hflags : x.flagUnit.flags ||| flags ||| BitVec.twoPow 22 Flag.quarantined.bit =
        x.flagUnit.flags ||| BitVec.twoPow 22 Flag.quarantined.bit ||| flags := by
      rw [BitVec.or_assoc, BitVec.or_comm flags, ← BitVec.or_assoc]
    simp only [State.raise, withCompletion, hflags]

theorem gaugeStation_withCompletion (g : IndexGate) (map : Vector MapEntry 28)
    (line : LineController) (flags : BitVec 22) (x : State) :
    (withCompletion g map line flags x).gaugeStation = x.gaugeStation := rfl

/-- The flag positions that a completion sets before its evaluation (R46, R48, R118). -/
def completionFlags (s : State) : BitVec 22 :=
  (if s.gate.capture.valid then BitVec.twoPow 22 Flag.captureOverwrite.bit else 0) |||
    BitVec.twoPow 22 Flag.indexDone.bit |||
    (if mismatched s then BitVec.twoPow 22 Flag.presenceMismatch.bit else 0)

/-- The map that a completion leaves (R27, R118). -/
def completedMap (s : State) : Vector MapEntry 28 :=
  Vector.ofFn fun k => s.mapShift.checkedEntry k

/-- The line as a completion's evaluation finds it (R26, R118). -/
def completedLine (s : State) : LineController :=
  ((s.addFaultIf (exitsLoaded s) .unloadMissed).addFaultIf (mismatched s) .presenceMismatch).line

/-- What a completion of s makes of the state with its map shifted, the accounting apart. -/
def completed (s : State) : State → State :=
  withCompletion (completedGate s.gate) (completedMap s) (completedLine s) (completionFlags s)

theorem checkedState_eq_completed : checkedState s = completed s s.mapShift := by
  have hflags : (((s.raiseIf s.gate.capture.valid .captureOverwrite).raise .indexDone).raiseIf
      (mismatched s) .presenceMismatch).flagUnit =
      { s.flagUnit with flags := s.flagUnit.flags ||| completionFlags s } := by
    unfold completionFlags
    cases s.gate.capture.valid <;> cases mismatched s <;>
      simp [State.raiseIf, State.raise, BitVec.or_assoc]
  rw [checkedState_eq, hflags, completed, completedMap, completedLine, withCompletion]
  generalize (Vector.ofFn fun k => s.mapShift.checkedEntry k) = map
  rw [mapShift_eq s]

/-- The check against presence leaves every entry its pallet (R118). -/
theorem pallet_checkedEntry (x : State) (k : StationNo) :
    (x.checkedEntry k).pallet = (x.entry k).pallet := by
  unfold State.checkedEntry
  dsimp only
  split
  · rfl
  · split
    · rfl
    · split <;> rfl

theorem entry_completed (x : State) (k : StationNo) :
    (completed s x).entry k = s.mapShift.checkedEntry k := by
  have hmap : (completed s x).tracking.map = completedMap s := rfl
  rw [State.entry, hmap, completedMap, Vector.getElem_ofFn]

theorem gaugedPallet_completed : (completed s s.mapShift).gaugedPallet = s.mapShift.gaugedPallet := by
  rw [State.gaugedPallet, State.gaugedPallet, completed, gaugeStation_withCompletion, ← completed]
  simp only [entry_completed, pallet_checkedEntry]

/-- The state after the accounting of a completion: that of the shift alone, with what the completion changes besides (R138). -/
theorem accounted_completed :
    (checkedState s).ungaugedAccounting s.gaugedPallet =
      completed s (s.mapShift.ungaugedAccounting s.gaugedPallet) := by
  rw [checkedState_eq_completed]
  exact (beside_withCompletion _ _ _ _).ungaugedAccounting _ _ gaugedPallet_completed

/-- The state that a completion's cycle evaluation starts from (R48, R102). -/
def judgedFrom (s : State) : State :=
  (completed s (s.mapShift.ungaugedAccounting s.gaugedPallet)).resetUnits

theorem completeIndex_eq : s.completeIndex = (judgedFrom s).evaluateCycle.refreshEnables := by
  rw [judgedFrom, ← accounted_completed]
  rfl

/-- The shift with its accounting leaves every block but the tracking unit, the current faults and the flags. -/
theorem accounted_mapShift :
    s.mapShift.ungaugedAccounting s.gaugedPallet =
      { s with
        tracking := (s.mapShift.ungaugedAccounting s.gaugedPallet).tracking
        line := (s.addFaultIf (exitsLoaded s) .unloadMissed).line
        flagUnit := { s.flagUnit with
          flags := (s.mapShift.ungaugedAccounting s.gaugedPallet).flagUnit.flags } } := by
  have h := (accounted_ungaugedAccounting (s := s.mapShift) s.gaugedPallet).rest
  have hshift := mapShift_eq s
  generalize s.mapShift.ungaugedAccounting s.gaugedPallet = t at h ⊢
  generalize s.mapShift = x at h hshift
  generalize (s.addFaultIf (exitsLoaded s) .unloadMissed).line = line at hshift ⊢
  rw [h, hshift]

theorem judgedFrom_eq :
    judgedFrom s =
      { s with
        gate := completedGate s.gate
        tracking :=
          { (s.mapShift.ungaugedAccounting s.gaugedPallet).tracking with map := completedMap s }
        monitor := (judgedFrom s).monitor
        line := completedLine s
        flagUnit := { s.flagUnit with
          flags := (s.mapShift.ungaugedAccounting s.gaugedPallet).flagUnit.flags |||
            completionFlags s } } := by
  have h := accounted_mapShift (s := s)
  unfold judgedFrom
  generalize s.mapShift.ungaugedAccounting s.gaugedPallet = t at h ⊢
  rw [h]
  rfl

end Sys2Proof.Machine.Completing
end

section
/-! SUPPORT. What an index completion leaves, block by block, and the obligations about it (R45 to R48, R75, R102 to R106, R118). -/

namespace Sys2Proof.Machine.Completing

open Shifting

variable {s : State}

/-! ### The state that is judged -/

theorem gate_judgedFrom : (judgedFrom s).gate = completedGate s.gate := by rw [judgedFrom_eq]

theorem config_judgedFrom : (judgedFrom s).config = s.config := by rw [judgedFrom_eq]

theorem line_judgedFrom : (judgedFrom s).line = completedLine s := by rw [judgedFrom_eq]

theorem held_judgedFrom : (judgedFrom s).monitor.held = s.monitor.held := by
  have h := accounted_mapShift (s := s)
  unfold judgedFrom
  generalize s.mapShift.ungaugedAccounting s.gaugedPallet = t at h ⊢
  rw [State.resetUnits, State.held_mapStations, h]
  rfl

theorem station_judgedFrom (k : StationNo) :
    (judgedFrom s).station k =
      { s.station k with engagement := none, budget := 0, budgetDue := false } := by
  have h := accounted_mapShift (s := s)
  unfold judgedFrom
  generalize s.mapShift.ungaugedAccounting s.gaugedPallet = t at h ⊢
  rw [State.resetUnits, State.station_mapStations, h]
  rfl

theorem entry_judgedFrom (k : StationNo) :
    (judgedFrom s).entry k = s.mapShift.checkedEntry k := by
  rw [judgedFrom_eq, State.entry]
  simp only [completedMap, Vector.getElem_ofFn]

theorem pallet_judgedFrom (p : PalletNo) :
    (judgedFrom s).pallet p = (s.mapShift.ungaugedAccounting s.gaugedPallet).pallet p := by
  rw [judgedFrom_eq]
  rfl

theorem queue_judgedFrom :
    (judgedFrom s).tracking.queue =
      (s.mapShift.ungaugedAccounting s.gaugedPallet).tracking.queue := by
  rw [judgedFrom_eq]

/-- The flags a completion sets before its evaluation, one by one (R46, R48, R118). -/
theorem completionFlags_bit (f : Flag) :
    (completionFlags s).getLsbD f.bit =
      ((s.gate.capture.valid && decide (f = .captureOverwrite)) || decide (f = .indexDone) ||
        (mismatched s && decide (f = .presenceMismatch))) := by
  have hone (g : Flag) : (BitVec.twoPow 22 g.bit).getLsbD f.bit = decide (f = g) := by
    by_cases h : f = g
    · simp [h, Flag.bit_lt]
    · simp [BitVec.getLsbD_twoPow, h, Flag.bit_inj, Ne.symm h]
  unfold completionFlags
  cases s.gate.capture.valid <;> cases mismatched s <;> simp [hone]

theorem hasFlag_judgedFrom (f : Flag) :
    (judgedFrom s).hasFlag f =
      ((s.mapShift.ungaugedAccounting s.gaugedPallet).hasFlag f ||
        (s.gate.capture.valid && decide (f = .captureOverwrite)) || decide (f = .indexDone) ||
        (mismatched s && decide (f = .presenceMismatch))) := by
  rw [judgedFrom_eq, State.hasFlag]
  simp only [BitVec.getLsbD_or, completionFlags_bit]
  simp only [State.hasFlag, Bool.or_assoc]

theorem hasFlag_accounted (f : Flag) (hf : f ≠ .quarantined) :
    (s.mapShift.ungaugedAccounting s.gaugedPallet).hasFlag f = s.hasFlag f := by
  rw [(accounted_ungaugedAccounting (s := s.mapShift) s.gaugedPallet).flags f hf, mapShift_eq]
  rfl

/-! ### The state that is left -/

/-- From the state judged to the state left, the line, two flags and the enable outputs change (R48, R102). -/
theorem judged_completeIndex : Judged (judgedFrom s) s.completeIndex := by
  rw [completeIndex_eq]
  refine judged_evaluateCycle.trans ?_
  exact
    { rest := by
        apply State.ext_parts <;> intros <;> simp [State.entry, State.pallet, State.station]
      held := by simp
      station := fun k => by simp
      flags := fun f _ _ => by simp [State.hasFlag]
      unit := by simp }

theorem evaluated_completeIndex (hs : s.line.state = .producing ∨ s.line.state = .restricted) :
    Evaluated (judgedFrom s) s.completeIndex := by
  have hstate : (judgedFrom s).line.state = s.line.state := by
    rw [line_judgedFrom, completedLine, line_addFaultIf, line_addFaultIf]
  obtain ⟨hline, hfailed, hchange⟩ := evaluated_evaluateCycle (hstate ▸ hs)
  rw [completeIndex_eq]
  exact
    { line := by rw [State.refreshEnables_line]; exact hline
      cycleFailed := by simp only [State.hasFlag, State.refreshEnables_flagUnit]; exact hfailed
      stateChange := by
        simp only [State.hasFlag, State.refreshEnables_flagUnit, State.refreshEnables_line]
        exact hchange }

theorem gate_completeIndex : s.completeIndex.gate = completedGate s.gate :=
  judged_completeIndex.gate.trans gate_judgedFrom

theorem config_completeIndex : s.completeIndex.config = s.config :=
  judged_completeIndex.config.trans config_judgedFrom

theorem tracking_completeIndex : s.completeIndex.tracking = (judgedFrom s).tracking :=
  judged_completeIndex.tracking

/-- The line stays in a state that permits the enables (R81, R102). -/
theorem permitsEnables_completeIndex
    (hs : s.line.state = .producing ∨ s.line.state = .restricted) :
    s.completeIndex.line.state.permitsEnables = true := by
  rw [(evaluated_completeIndex hs).line]
  dsimp only
  split
  · rfl
  · rcases verdict_state (s := judgedFrom s) (judgedFrom s).line.current with h | h | h <;>
      rw [h] <;> rfl

theorem station_completeIndex (hs : s.line.state = .producing ∨ s.line.state = .restricted)
    (k : StationNo) :
    s.completeIndex.station k =
      { s.station k with
        engagement := none, budget := 0, budgetDue := false, enable := s.inLine k } := by
  have henable : (s.completeIndex.station k).enable = s.inLine k := by
    have hgate := gate_completeIndex (s := s)
    have hstate := permitsEnables_completeIndex hs
    have hconfig := config_completeIndex (s := s)
    rw [completeIndex_eq] at hgate hstate hconfig ⊢
    rw [State.refreshEnables_gate] at hgate
    rw [State.refreshEnables_line] at hstate
    rw [State.refreshEnables_config] at hconfig
    rw [State.station_refreshEnables, State.enablePermitted, hstate, State.indexing, hgate,
      State.inLine, State.stationCount, hconfig, State.inLine, State.stationCount]
    simp [completedGate, IndexGate.toIdle]
  rw [judged_completeIndex.station, henable, station_judgedFrom]

theorem hasFlag_completeIndex (f : Flag) (hc : f ≠ .cycleFailed) (hs : f ≠ .stateChange) :
    s.completeIndex.hasFlag f = (judgedFrom s).hasFlag f :=
  judged_completeIndex.flags f hc hs

/-! ### Beside the pins -/

theorem mapShift_withPins (p : Pins) : { s with pins := p }.mapShift = { s.mapShift with pins := p } := by
  have htracking : { s with pins := p }.mapShift.tracking = s.mapShift.tracking := by
    rw [tracking_mapShift, tracking_mapShift]
    rfl
  have hloaded : exitsLoaded { s with pins := p } = exitsLoaded s := rfl
  rw [mapShift_eq, htracking, hloaded, mapShift_eq s]
  simp only [line_addFaultIf]

theorem beside_withPins (p : Pins) : Beside fun x => { x with pins := p } where
  raise _ := rfl

/-- A completion's shift and accounting beside the pins. -/
theorem accounted_withPins (p : Pins) :
    { s with pins := p }.mapShift.ungaugedAccounting { s with pins := p }.gaugedPallet =
      { s.mapShift.ungaugedAccounting s.gaugedPallet with pins := p } := by
  have hstands (x : State) : { x with pins := p }.gaugedPallet = x.gaugedPallet := rfl
  rw [mapShift_withPins, hstands]
  exact (beside_withPins p).ungaugedAccounting _ _ (hstands _)

theorem hasFlag_withPins (p : Pins) (f : Flag) : { s with pins := p }.hasFlag f = s.hasFlag f := rfl

theorem checkedEntry_withPins (p : Pins) (k : StationNo) :
    { s with pins := p }.checkedEntry k = s.checkedEntry k := rfl

theorem presenceDisagrees_withPins (p : Pins) :
    { s with pins := p }.presenceDisagrees = s.presenceDisagrees := rfl

/-- An entry disagrees with the presence of its station after the shift (R118). -/
theorem presenceDisagrees_mapShift (k : StationNo) :
    s.mapShift.presenceDisagrees k =
      (s.inLine k && (s.mapShift.entry k).pallet.isSome != s.present k) := by
  have hline : s.mapShift.inLine k = s.inLine k := by
    rw [State.inLine, State.stationCount, mapShift_eq, State.inLine, State.stationCount]
  have hpresent : s.mapShift.present k = s.present k := by
    have h := mapShift_eq s
    generalize s.mapShift = x at h ⊢
    rw [h]
    rfl
  rw [State.presenceDisagrees, hline, hpresent]
  rfl

theorem mismatched_eq :
    mismatched s =
      decide (∃ k, s.inLine k = true ∧ (s.mapShift.entry k).pallet.isSome ≠ s.present k) := by
  rw [mismatched, Bool.eq_iff_iff]
  simp [allStations, presenceDisagrees_mapShift]

/-- A position beyond the line keeps its entry through the shift (R27). -/
theorem entry_mapShift_beyond (hcount : 3 ≤ s.stationCount) {k : StationNo}
    (hk : s.inLine k = false) : s.mapShift.entry k = s.entry k := by
  have hzero : k ≠ 0 := fun hzero => by
    have hlt : k.val < s.stationCount := by
      rw [hzero]
      exact Nat.lt_of_lt_of_le (by decide) hcount
    exact absurd ((decide_eq_true hlt : s.inLine k = true).symm.trans hk) (by decide)
  rw [State.entry, tracking_mapShift]
  simp [hzero, hk]

/-- The map that a completion leaves, entry by entry (R27, R118). -/
theorem checkedEntry_mapShift (hcount : 3 ≤ s.stationCount) (k : StationNo) :
    s.mapShift.checkedEntry k =
      if s.inLine k = false then s.entry k
      else if s.inLine k = true ∧ (s.mapShift.entry k).pallet.isSome ≠ s.present k then
        { s.mapShift.entry k with status := .uncertain }
      else if (s.mapShift.entry k).pallet = none then
        { s.mapShift.entry k with status := .confirmed }
      else s.mapShift.entry k := by
  have hline : s.mapShift.inLine k = s.inLine k := by
    rw [State.inLine, State.stationCount, mapShift_eq, State.inLine, State.stationCount]
  have hdisagrees := presenceDisagrees_mapShift (s := s) k
  unfold State.checkedEntry
  dsimp only
  rw [hline]
  cases hk : s.inLine k with
  | false => simp [entry_mapShift_beyond hcount hk]
  | true =>
    rw [hdisagrees, hk]
    by_cases hp : (s.mapShift.entry k).pallet.isSome = s.present k
    · cases hpallet : (s.mapShift.entry k).pallet <;>
        simp [MapEntry.occupied, hpallet]
    · simp [hp]

/-! ### The obligations -/

/-- The at-rest input rises on an index with motion seen, or with nothing to complete (R41, R45). -/
theorem exec_atRestRise :
    exec .atRestRise s =
      .next
        (if s.indexing && s.gate.motionSeen then
          { s with pins := { s.pins with atRest := true } }.completeIndex
        else { s with pins := { s.pins with atRest := true } }) := rfl

theorem exec_atRestRise_completes (hi : s.gate.state = .indexing) (hm : s.gate.motionSeen = true) :
    exec .atRestRise s =
      .next { s with pins := { s.pins with atRest := true } }.completeIndex := by
  rw [exec_atRestRise, if_pos (by simp [State.indexing, hi, hm])]

/-- The blocks and the flags that a completion leaves, but for those it is about (R45 to R48). -/
theorem completeIndex_frame :
    s.completeIndex.flagUnit = { s.flagUnit with flags := s.completeIndex.flagUnit.flags } ∧
      s.completeIndex =
        { s with
          tracking := s.completeIndex.tracking, gate := s.completeIndex.gate
          monitor := s.completeIndex.monitor, line := s.completeIndex.line
          flagUnit := s.completeIndex.flagUnit } := by
  have hrest := judged_completeIndex (s := s)
  have hjudged := judgedFrom_eq (s := s)
  generalize s.completeIndex = t at hrest ⊢
  generalize judgedFrom s = j at hrest hjudged
  generalize (s.mapShift.ungaugedAccounting s.gaugedPallet) = x at hjudged
  constructor
  · rw [hrest.unit, hjudged]
  · rw [hrest.rest, hjudged]

/-- Settles O45: the gate, the stations and the flags of a completion, block by block. -/
theorem completionGateAndStations : Obligations.CompletionGateAndStations := by
  intro s
  refine ⟨fun hi hm _ hs => ⟨_, exec_atRestRise_completes hi hm, ?_⟩, fun hnot => ?_⟩
  · have hold (f : Flag) :
        { s with pins := { s.pins with atRest := true } }.hasFlag f = s.hasFlag f := rfl
    have hgate : { s with pins := { s.pins with atRest := true } }.gate = s.gate := rfl
    have hframe := completeIndex_frame (s := { s with pins := { s.pins with atRest := true } })
    refine ⟨gate_completeIndex, ?_, ?_,
      station_completeIndex (s := { s with pins := { s.pins with atRest := true } }) hs,
      ?_, ?_, fun f hf => ?_, hframe.1, ?_⟩
    · rw [hframe.2]
    · rw [judged_completeIndex.held, held_judgedFrom]
    · rw [hasFlag_completeIndex _ (by decide) (by decide), hasFlag_judgedFrom]
      simp
    · rw [hasFlag_completeIndex _ (by decide) (by decide), hasFlag_judgedFrom,
        hasFlag_accounted _ (by decide)]
      simp [hold]
    · simp only [List.mem_cons, List.not_mem_nil, or_false, not_or] at hf
      obtain ⟨hdone, hover, hpresence, hquarantined, hcycle, hchange⟩ := hf
      rw [hasFlag_completeIndex _ hcycle hchange, hasFlag_judgedFrom,
        hasFlag_accounted _ hquarantined]
      simp [hdone, hover, hpresence, hold]
    · rw [hframe.2]
  · rw [exec_atRestRise, if_neg]
    rcases hnot with h | h <;> simp [State.indexing, h]

/-- Settles O46: the entries checked after the shift, and the accounting beside the rest. -/
theorem completionMap : Obligations.CompletionMap := by
  intro s hi hm hcount hs
  refine ⟨_, exec_atRestRise_completes hi hm, fun k => ?_, fun p => ?_, ?_, ?_, ?_⟩
  · have hentry : { s with pins := { s.pins with atRest := true } }.completeIndex.entry k =
        { s with pins := { s.pins with atRest := true } }.mapShift.checkedEntry k := by
      rw [State.entry, tracking_completeIndex, ← State.entry, entry_judgedFrom]
    rw [hentry, mapShift_withPins, checkedEntry_withPins, checkedEntry_mapShift hcount]
    rfl
  · rw [State.pallet, tracking_completeIndex, ← State.pallet, pallet_judgedFrom, accounted_withPins]
    rfl
  · rw [tracking_completeIndex, queue_judgedFrom, accounted_withPins]
  · rw [hasFlag_completeIndex _ (by decide) (by decide), hasFlag_judgedFrom,
      hasFlag_accounted _ (by decide), mismatched, mapShift_withPins, presenceDisagrees_withPins,
      ← mismatched, mismatched_eq, hasFlag_withPins]
    simp only [reduceCtorEq, decide_false, Bool.and_false, Bool.or_false, decide_true, Bool.and_true]
    rfl
  · rw [hasFlag_completeIndex _ (by decide) (by decide), hasFlag_judgedFrom, accounted_withPins,
      hasFlag_withPins]
    simp

/-- The faults of a cycle that ends: its own, UNLOAD_MISSED and PRESENCE_MISMATCH (R26, R118). -/
theorem completedLine_eq :
    completedLine s =
      { s.line with
        current := s.line.current ||| (if exitsLoaded s then 0x80 else 0) |||
          (if mismatched s then 0x20 else 0) } := by
  rw [completedLine, line_addFaultIf, line_addFaultIf]
  cases exitsLoaded s <;> cases mismatched s <;> simp [CycleFault.bit, BitVec.twoPow]

/-- Settles O47: the evaluation of the cycle with the faults of its completion. -/
theorem completionCycle : Obligations.CompletionCycle := by
  intro s hi hm hcount hs missed mismatch ending count restricted judged
  have heval := evaluated_completeIndex (s := { s with pins := { s.pins with atRest := true } }) hs
  have hmismatched : mismatched { s with pins := { s.pins with atRest := true } } =
      decide mismatch := by
    rw [mismatched, mapShift_withPins, presenceDisagrees_withPins, ← mismatched, mismatched_eq]
  have hline : (judgedFrom { s with pins := { s.pins with atRest := true } }).line =
      { s.line with current := ending } := by
    rw [line_judgedFrom, completedLine_eq, hmismatched]
    simp only [decide_eq_true_eq]
    rfl
  have hverdict : verdict (judgedFrom { s with pins := { s.pins with atRest := true } }) ending =
      judged := by
    unfold verdict
    rw [hline, config_judgedFrom]
  have hflag (f : Flag) (hq : f ≠ .quarantined) (hover : f ≠ .captureOverwrite)
      (hdone : f ≠ .indexDone) (hpresence : f ≠ .presenceMismatch) :
      (judgedFrom { s with pins := { s.pins with atRest := true } }).hasFlag f = s.hasFlag f := by
    rw [hasFlag_judgedFrom, hasFlag_accounted _ hq, hasFlag_withPins]
    simp [hover, hdone, hpresence]
  obtain ⟨hl, hf, hc⟩ := heval
  rw [hline] at hl hf hc
  dsimp only at hl hf hc
  rw [hverdict] at hl
  refine ⟨_, exec_atRestRise_completes hi hm, ?_, ?_, ?_⟩
  · have hcycle : s.line.cycle + 1 = BitVec.ofNat 8 ((s.line.cycle.toNat + 1) % 256) := by
      apply BitVec.eq_of_toNat_eq
      simp [BitVec.toNat_add]
    rw [hl, hcycle]
  · rw [hf, hflag _ (by decide) (by decide) (by decide) (by decide)]
    simp [bne, Bool.beq_eq_decide_eq]
  · rw [hc, hflag _ (by decide) (by decide) (by decide) (by decide)]
    simp [bne, Bool.beq_eq_decide_eq]

end Sys2Proof.Machine.Completing
end

section
/-! SUPPORT. The pallet account place by place: the laws of R12 in a form that each operation on the map, the queue and the records is checked against. -/

namespace Sys2Proof.Machine.Accounts

/-- The laws of the pallet account, place by place: what `AccountLaw` says of the list of all places. -/
structure Account (s : State) : Prop where
  onMap : ∀ {j k p}, (s.entry j).pallet = some p → (s.entry k).pallet = some p → j = k
  queueOnce : s.tracking.queue.Nodup
  apart : ∀ {k p}, (s.entry k).pallet = some p → p ∉ s.tracking.queue
  stands : ∀ p, (s.pallet p).service ≠ .out ↔
    (∃ k, (s.entry k).pallet = some p) ∨ p ∈ s.tracking.queue
  queueRoom : s.tracking.queue.length ≤ s.config.params.returnCap
  queueInService : ∀ p, p ∈ s.tracking.queue → (s.pallet p).service ≠ .quarantine
  beyond : ∀ k, s.inLine k = false → s.entry k = .vacant
  variants : ∀ p, (s.pallet p).variant.val < s.config.params.variantCount.val
  offsets : ∀ p, (s.pallet p).offset.any (offsetClamped s.config.params.offsetLimit) = false
  room : s.indexing = true → s.exitHasRoom = true

variable {s t : State}

theorem mem_mapPallets (p : PalletNo) :
    p ∈ s.mapPallets ↔ ∃ k, (s.entry k).pallet = some p := by
  simp [State.mapPallets, allStations]

/-- No pallet stands on two places of the map where the list of them has no duplicate (R12). -/
theorem mapPallets_nodup_iff :
    s.mapPallets.Nodup ↔
      ∀ j k p, (s.entry j).pallet = some p → (s.entry k).pallet = some p → j = k := by
  rw [State.mapPallets, List.Nodup, List.pairwise_filterMap, allStations]
  constructor
  · intro h j k p hj hk
    have hsymm : Std.Symm fun a b : StationNo => ∀ q, (s.entry a).pallet = some q →
        ∀ q', (s.entry b).pallet = some q' → q ≠ q' :=
      ⟨fun a b hab q hq q' hq' => (hab q' hq' q hq).symm⟩
    by_contra hne
    exact h.forall (List.mem_finRange j) (List.mem_finRange k) hne p hj p hk rfl
  · intro h
    refine (List.nodup_finRange 28).pairwise_of_forall_ne fun j _ k _ hne p hj q hk hpq => ?_
    exact hne (h j k p hj (hpq ▸ hk))

/-- The account laws over the list of all places are those place by place. -/
theorem accountLaw_iff : AccountLaw s ↔ Account s := by
  have hplaced (p : PalletNo) :
      p ∈ s.placed ↔ (∃ k, (s.entry k).pallet = some p) ∨ p ∈ s.tracking.queue := by
    rw [State.placed, List.mem_append, mem_mapPallets]
  have honce : s.placed.Nodup ↔
      (∀ j k p, (s.entry j).pallet = some p → (s.entry k).pallet = some p → j = k) ∧
        s.tracking.queue.Nodup ∧ ∀ p k, (s.entry k).pallet = some p → p ∉ s.tracking.queue := by
    rw [State.placed, List.nodup_append', mapPallets_nodup_iff, List.disjoint_left]
    simp only [mem_mapPallets, forall_exists_index]
  constructor
  · intro law
    obtain ⟨hmap, hqueue, hapart⟩ := honce.mp law.once
    exact
      { law with
        onMap := hmap _ _ _
        queueOnce := hqueue
        apart := hapart _ _
        stands := fun p => (law.placedInService p).symm.trans (hplaced p) }
  · intro h
    exact
      { h with
        once := honce.mpr ⟨fun _ _ _ => h.onMap, h.queueOnce, fun _ _ => h.apart⟩
        placedInService := fun p => (hplaced p).trans (h.stands p).symm }

/-- The account hangs on the tracking unit and the line parameters alone, its room on the index state too. -/
theorem Account.congr_room (h : Account s) (ht : t.tracking = s.tracking)
    (hp : t.config.params = s.config.params) (hi : t.indexing = true → s.exitHasRoom = true) :
    Account t := by
  obtain ⟨_, _, _, _, _, _, _, _, ⟨_, _, _⟩, _, _, _⟩ := s
  obtain ⟨_, _, _, _, _, _, _, _, ⟨_, _, _⟩, _, _, _⟩ := t
  cases ht
  cases hp
  exact { h with room := hi }

/-- The account hangs on the tracking unit, the line parameters and the index state alone. -/
theorem Account.congr (h : Account s) (ht : t.tracking = s.tracking)
    (hp : t.config.params = s.config.params) (hi : t.indexing = true → s.indexing = true) :
    Account t :=
  h.congr_room ht hp fun hin => h.room (hi hin)

theorem Account.raiseIf (h : Account s) (c : Bool) (f : Flag) : Account (s.raiseIf c f) := by
  refine h.congr (by simp) (by simp) ?_
  rw [State.indexing, State.raiseIf_gate]
  exact id

/-! ### Statuses and records -/

/-- Statuses of the line's entries changed, their pallets kept. -/
theorem Account.of_statuses (h : Account s) (hpallets : t.tracking.pallets = s.tracking.pallets)
    (hqueue : t.tracking.queue = s.tracking.queue) (hconfig : t.config = s.config)
    (hgate : t.gate = s.gate) (hentry : ∀ k, (t.entry k).pallet = (s.entry k).pallet)
    (hbeyond : ∀ k, s.inLine k = false → t.entry k = s.entry k) : Account t := by
  have hpallet (p : PalletNo) : t.pallet p = s.pallet p := by
    rw [State.pallet, hpallets, State.pallet]
  have hinLine (k : StationNo) : t.inLine k = s.inLine k := by
    rw [State.inLine, State.stationCount, hconfig, State.inLine, State.stationCount]
  have hunload : t.unloadStation = s.unloadStation := by
    rw [State.unloadStation, State.unloadStation]
    congr 3
    rw [hconfig]
  refine
    { onMap := fun hj hk => ?_, queueOnce := ?_, apart := fun hk => ?_, stands := fun p => ?_
      queueRoom := ?_, queueInService := fun p => ?_, beyond := fun k => ?_
      variants := fun p => ?_, offsets := fun p => ?_, room := fun hi => ?_ }
  · rw [hentry] at hj hk
    exact h.onMap hj hk
  · rw [hqueue]; exact h.queueOnce
  · rw [hentry] at hk
    rw [hqueue]; exact h.apart hk
  · simp only [hpallet, hentry, hqueue]; exact h.stands p
  · rw [hqueue, hconfig]; exact h.queueRoom
  · rw [hqueue, hpallet]; exact h.queueInService p
  · rw [hinLine]
    exact fun hk => (hbeyond k hk).trans (h.beyond k hk)
  · rw [hpallet, hconfig]; exact h.variants p
  · rw [hpallet, hconfig]; exact h.offsets p
  · rw [State.indexing, hgate] at hi
    have hroom := h.room hi
    unfold State.exitHasRoom at hroom ⊢
    simp only [hunload, hentry, hpallet, hqueue, hconfig]
    exact hroom

/-- A record written that keeps the pallet where it stands, its variant and offsets lawful. -/
theorem Account.setPallet (h : Account s) (p : PalletNo) (r : Pallet)
    (hservice : r.service = .out ↔ (s.pallet p).service = .out)
    (hqueue : p ∈ s.tracking.queue → r.service ≠ .quarantine)
    (hvariant : r.variant.val < s.config.params.variantCount.val)
    (hoffset : r.offset.any (offsetClamped s.config.params.offsetLimit) = false)
    (hroom : s.indexing = true → r.service = .inService → (s.pallet p).service = .inService) :
    Account (s.setPallet p r) := by
  refine
    { h with stands := fun q => ?_, queueInService := fun q hq => ?_
             variants := fun q => ?_, offsets := fun q => ?_, room := fun hi => ?_ }
  · rw [State.pallet_setPallet]
    split
    case isTrue hpq =>
      subst hpq
      rw [ne_eq, hservice]
      exact h.stands p
    case isFalse => exact h.stands q
  · rw [State.pallet_setPallet]
    split
    case isTrue hpq => exact hqueue (hpq ▸ hq)
    case isFalse => exact h.queueInService q hq
  · rw [State.pallet_setPallet]
    split
    case isTrue => exact hvariant
    case isFalse => exact h.variants q
  · rw [State.pallet_setPallet]
    split
    case isTrue => exact hoffset
    case isFalse => exact h.offsets q
  · have hroom' := h.room hi
    unfold State.exitHasRoom at hroom' ⊢
    show (match (s.entry s.unloadStation).pallet with | some u => _ | none => _) = true
    cases hu : (s.entry s.unloadStation).pallet with
    | none => rfl
    | some u =>
      simp only [hu, Bool.or_eq_true, bne_iff_ne, decide_eq_true_eq] at hroom' ⊢
      refine hroom'.imp (fun hnot => ?_) id
      rw [State.pallet_setPallet]
      split
      case isTrue hpu => exact fun hin => hnot (hpu ▸ hroom hi hin)
      case isFalse => exact hnot

/-- A record written that keeps service state, variant and offset. -/
theorem Account.setPallet_same (h : Account s) (p : PalletNo) (r : Pallet)
    (hservice : r.service = (s.pallet p).service) (hvariant : r.variant = (s.pallet p).variant)
    (hoffset : r.offset = (s.pallet p).offset) : Account (s.setPallet p r) :=
  h.setPallet p r (by rw [hservice]) (fun hq => hservice ▸ h.queueInService p hq)
    (hvariant ▸ h.variants p) (hoffset ▸ h.offsets p) fun _ hr => hservice ▸ hr

theorem Account.claimBlock (h : Account s) (k : StationNo) (b : Block) :
    Account (s.claimBlock k b) := by
  unfold State.claimBlock
  split
  · exact h.setPallet_same _ _ rfl rfl rfl
  · exact h

theorem Account.setStatus (h : Account s) (k : StationNo) (st : Status)
    (hk : s.inLine k = true) : Account (s.setStatus k st) := by
  refine h.of_statuses rfl rfl rfl rfl (fun j => ?_) fun j hj => ?_
  · rw [State.setStatus, State.entry_setEntry]
    split
    case isTrue hkj => rw [← hkj]
    case isFalse => rfl
  · rw [State.setStatus, State.entry_setEntry, if_neg]
    rintro rfl
    simp [hk] at hj

/-! ### A quarantine claim -/

/-- A queued pallet leaves the queue and is OUT (R17, R19). -/
theorem Account.unqueueOut (h : Account s) (p : PalletNo) (hmem : p ∈ s.tracking.queue) :
    Account ((s.unqueue p).setService p .out) := by
  have hpallet (q : PalletNo) : ((s.unqueue p).setService p .out).pallet q =
      if p = q then { s.pallet p with service := .out } else s.pallet q :=
    State.pallet_setPallet (s.unqueue p) p q _
  have hqueue (q : PalletNo) :
      q ∈ s.tracking.queue.erase p ↔ q ≠ p ∧ q ∈ s.tracking.queue :=
    h.queueOnce.mem_erase_iff
  refine
    { onMap := h.onMap, queueOnce := h.queueOnce.erase p
      apart := fun hk hq => h.apart hk ((hqueue _).mp hq).2
      stands := fun q => ?_
      queueRoom := (List.length_erase_le).trans h.queueRoom
      queueInService := fun q hq => ?_, beyond := h.beyond, variants := fun q => ?_
      offsets := fun q => ?_, room := fun hi => ?_ }
  · rw [hpallet]
    have hstands := h.stands q
    show _ ↔ (∃ k, (s.entry k).pallet = some q) ∨ q ∈ s.tracking.queue.erase p
    rw [hqueue]
    split
    case isTrue hpq =>
      subst hpq
      simpa using fun k hk => h.apart hk hmem
    case isFalse hpq => simpa [Ne.symm hpq] using hstands
  · obtain ⟨hne, hq⟩ := (hqueue q).mp hq
    rw [hpallet, if_neg (Ne.symm hne)]
    exact h.queueInService q hq
  · rw [hpallet]
    split
    · exact h.variants p
    · exact h.variants q
  · rw [hpallet]
    split
    · exact h.offsets p
    · exact h.offsets q
  · have hroom := h.room hi
    unfold State.exitHasRoom at hroom ⊢
    show (match (s.entry s.unloadStation).pallet with | some u => _ | none => _) = true
    cases hu : (s.entry s.unloadStation).pallet with
    | none => rfl
    | some u =>
      have hne : p ≠ u := fun hpu => h.apart hu (hpu ▸ hmem)
      simp only [hu, hpallet, if_neg hne, Bool.or_eq_true, decide_eq_true_eq] at hroom ⊢
      exact hroom.imp id fun hlt => Nat.lt_of_le_of_lt List.length_erase_le hlt

/-- An IN_SERVICE pallet is taken out of the queue, or is QUARANTINE where it stands on the map (R19). -/
theorem Account.quarantinePallet (h : Account s) (p : PalletNo)
    (hin : (s.pallet p).service = .inService) : Account (s.quarantinePallet p) := by
  unfold State.quarantinePallet
  split
  case isTrue hq => exact h.unqueueOut p (by simpa [State.queued] using hq)
  case isFalse hq =>
    have hmem : p ∉ s.tracking.queue := by simpa [State.queued] using hq
    exact h.setPallet p _ (by simp [hin]) (fun hq => absurd hq hmem) (h.variants p) (h.offsets p)
      fun _ hr => nomatch hr

/-- A quarantine claim of the compensation unit (R140). -/
theorem Account.quarantineClaim (h : Account s) (p : PalletNo) : Account (s.quarantineClaim p) := by
  have hflagged : Account (s.raise .quarantined) := h.congr rfl rfl id
  unfold State.quarantineClaim
  split
  case isTrue hin => exact hflagged.quarantinePallet p hin
  case isFalse => exact hflagged

/-- An axis held at the limit is within it (R135). -/
theorem clampOffset_within (limit : Nat) (sum : Int) :
    offsetClamped limit (clampOffset limit sum) = false := by
  unfold offsetClamped clampOffset
  rw [decide_eq_false_iff_not]
  split
  · omega
  · split <;> omega

/-- A gauge result applied holds every axis within the limit, and keeps where the pallet stands (R134, R135). -/
theorem Account.applyGaugeResult (h : Account s) (p : PalletNo) :
    Account (s.applyGaugeResult p) := by
  have hmoved := h.setPallet p
    { s.pallet p with
      offset := ⟨clampOffset s.config.params.offsetLimit (s.steppedOffset p).x,
        clampOffset s.config.params.offsetLimit (s.steppedOffset p).y,
        clampOffset s.config.params.offsetLimit (s.steppedOffset p).z⟩
      ungauged := 0
      gauged := true }
    Iff.rfl (h.queueInService p) (h.variants p) (by simp [Axes.any, clampOffset_within])
    fun _ hr => hr
  have hnoted := hmoved.raiseIf
    (s.compensation.any (stepLimited s.config.params.maxStep)) .stepLimited
  unfold State.applyGaugeResult
  dsimp only
  split
  · exact hnoted.quarantineClaim p
  · exact hnoted

theorem Account.ungaugedAccounting (h : Account s) (leaving : Option PalletNo) :
    Account (s.ungaugedAccounting leaving) := by
  have hcounted : Account (s.forPallet leaving State.countUngauged) := by
    cases leaving with
    | none => exact h
    | some p =>
      show Account (s.countUngauged p)
      have hcount : Account (s.setPallet p
          { s.pallet p with ungauged := saturate Config.ungaugedMax (s.pallet p).ungauged }) :=
        h.setPallet_same p _ rfl rfl rfl
      unfold State.countUngauged
      dsimp only
      split
      · exact h
      · split
        · exact hcount.quarantineClaim p
        · exact hcount
  rw [State.ungaugedAccounting]
  cases s.gaugedPallet with
  | none => exact hcounted
  | some p => exact hcounted.setPallet_same p _ rfl rfl rfl

/-! ### Pallets that come and go -/

/-- A pallet that is OUT stands nowhere (R12). -/
theorem Account.nowhere (h : Account s) {p : PalletNo} (hout : (s.pallet p).service = .out) :
    (∀ k, (s.entry k).pallet ≠ some p) ∧ p ∉ s.tracking.queue := by
  have hnot : ¬((∃ k, (s.entry k).pallet = some p) ∨ p ∈ s.tracking.queue) := fun hp =>
    (h.stands p).mpr hp hout
  exact ⟨fun k hk => hnot (.inl ⟨k, hk⟩), fun hq => hnot (.inr hq)⟩

/-- An OUT pallet takes the queue tail, in service (R16). -/
theorem Account.enqueue (h : Account s) (p : PalletNo) (r : Pallet)
    (hidle : s.indexing = false) (hout : (s.pallet p).service = .out)
    (hroom : s.tracking.queue.length < s.config.params.returnCap)
    (hservice : r.service = .inService)
    (hvariant : r.variant.val < s.config.params.variantCount.val)
    (hoffset : r.offset.any (offsetClamped s.config.params.offsetLimit) = false) :
    Account ((s.setPallet p r).setQueue (s.tracking.queue ++ [p])) := by
  obtain ⟨hmap, hqueue⟩ := h.nowhere hout
  refine
    { onMap := h.onMap, queueOnce := ?_, apart := fun hk hq => ?_, stands := fun q => ?_
      queueRoom := ?_, queueInService := fun q hq => ?_, beyond := h.beyond
      variants := fun q => ?_, offsets := fun q => ?_
      room := fun hi => absurd (hidle.symm.trans hi) Bool.false_ne_true }
  · exact List.nodup_append'.mpr ⟨h.queueOnce, List.nodup_singleton p, by simpa using hqueue⟩
  · rcases List.mem_append.mp hq with hq | hq
    · exact h.apart hk hq
    · exact hmap _ (List.mem_singleton.mp hq ▸ hk)
  · rw [State.pallet_setQueue, State.pallet_setPallet]
    show _ ↔ (∃ k, (s.entry k).pallet = some q) ∨ q ∈ s.tracking.queue ++ [p]
    rw [List.mem_append, List.mem_singleton]
    split
    case isTrue hpq => simp [hservice, hpq]
    case isFalse hpq =>
      rw [h.stands q]
      simp [Ne.symm hpq]
  · show (s.tracking.queue ++ [p]).length ≤ _
    simpa using hroom
  · rw [State.pallet_setQueue, State.pallet_setPallet]
    split
    case isTrue => simp [hservice]
    case isFalse hpq =>
      refine h.queueInService q ((List.mem_append.mp hq).resolve_right fun hq => ?_)
      exact hpq (List.mem_singleton.mp hq).symm
  · rw [State.pallet_setQueue, State.pallet_setPallet]
    split
    · exact hvariant
    · exact h.variants q
  · rw [State.pallet_setQueue, State.pallet_setPallet]
    split
    · exact hoffset
    · exact h.offsets q

/-- An entry emptied or given an OUT pallet: what follows for every place, the pallet that left OUT, and the one that came in service. -/
theorem Account.replaceEntry (h : Account s) (k : StationNo) (e : MapEntry)
    (record : PalletNo → Pallet) (hk : s.inLine k = true) (hidle : s.indexing = false)
    (ht : t.entry = (s.setEntry k e).entry) (hp : ∀ p, t.pallet p = record p)
    (hq : t.tracking.queue = s.tracking.queue) (hc : t.config = s.config) (hg : t.gate = s.gate)
    (hout : ∀ p, e.pallet = some p → (s.pallet p).service = .out)
    (hcomes : ∀ p, e.pallet = some p → (record p).service = .inService)
    (hleaves : ∀ p, (s.entry k).pallet = some p → (record p).service = .out)
    (hstays : ∀ p, e.pallet ≠ some p → (s.entry k).pallet ≠ some p →
      (record p).service = (s.pallet p).service)
    (hvariant : ∀ p, (record p).variant.val < s.config.params.variantCount.val)
    (hoffset : ∀ p, (record p).offset.any (offsetClamped s.config.params.offsetLimit) = false) :
    Account t := by
  have hentry (j : StationNo) : t.entry j = if k = j then e else s.entry j := by
    rw [ht, State.entry_setEntry]
  have hinLine (j : StationNo) : t.inLine j = s.inLine j := by
    rw [State.inLine, State.stationCount, hc, State.inLine, State.stationCount]
  have hnew (j : StationNo) (p : PalletNo) (hj : k ≠ j) (he : e.pallet = some p) :
      (s.entry j).pallet ≠ some p := (h.nowhere (hout p he)).1 j
  refine
    { onMap := fun {i j p} hi hj => ?_, queueOnce := hq ▸ h.queueOnce
      apart := fun {j p} hj => ?_, stands := fun p => ?_, queueRoom := ?_
      queueInService := fun p hmem => ?_, beyond := fun j hj => ?_
      variants := fun p => ?_, offsets := fun p => ?_, room := fun hi => ?_ }
  · rw [hentry] at hi hj
    by_cases hki : k = i <;> by_cases hkj : k = j
    · exact hki.symm.trans hkj
    · rw [if_pos hki] at hi
      rw [if_neg hkj] at hj
      exact absurd hj (hnew j p hkj hi)
    · rw [if_neg hki] at hi
      rw [if_pos hkj] at hj
      exact absurd hi (hnew i p hki hj)
    · rw [if_neg hki] at hi
      rw [if_neg hkj] at hj
      exact h.onMap hi hj
  · rw [hentry] at hj
    rw [hq]
    split at hj
    case isTrue => exact (h.nowhere (hout p hj)).2
    case isFalse => exact h.apart hj
  · rw [hp, hq]
    simp only [hentry]
    by_cases he : e.pallet = some p
    · rw [hcomes p he]
      exact ⟨fun _ => .inl ⟨k, by rw [if_pos rfl, he]⟩, fun _ => by decide⟩
    · by_cases hold : (s.entry k).pallet = some p
      · rw [hleaves p hold]
        refine ⟨fun hne => absurd rfl hne, ?_⟩
        rintro (⟨j, hj⟩ | hmem)
        · split at hj
          case isTrue => exact absurd hj he
          case isFalse hkj => exact absurd (h.onMap hold hj) hkj
        · exact absurd hmem (h.apart hold)
      · rw [hstays p he hold, h.stands p]
        refine or_congr_left (exists_congr fun j => ?_)
        split
        case isTrue hkj =>
          subst hkj
          exact ⟨fun hj => absurd hj hold, fun hj => absurd hj he⟩
        case isFalse => rfl
  · rw [hq, hc]; exact h.queueRoom
  · rw [hq] at hmem
    rw [hp]
    by_cases he : e.pallet = some p
    · rw [hcomes p he]; decide
    · rw [hstays p he fun hold => h.apart hold hmem]
      exact h.queueInService p hmem
  · rw [hinLine] at hj
    rw [hentry, if_neg (fun hkj => by simp [← hkj, hk] at hj)]
    exact h.beyond j hj
  · rw [hp, hc]; exact hvariant p
  · rw [hp, hc]; exact hoffset p
  · rw [State.indexing, hg] at hi
    exact absurd (hidle.symm.trans hi) Bool.false_ne_true

/-- The pallet of an entry is taken off the map and is OUT (R17). -/
theorem Account.takeOff (h : Account s) {k : StationNo} {p : PalletNo} (hk : s.inLine k = true)
    (hidle : s.indexing = false) (hp : (s.entry k).pallet = some p) (r : Pallet)
    (hout : r.service = .out) (hvariant : r.variant = (s.pallet p).variant)
    (hoffset : r.offset = (s.pallet p).offset) :
    Account ((s.setEntry k .vacant).setPallet p r) := by
  refine h.replaceEntry k .vacant (fun q => if p = q then r else s.pallet q) hk hidle rfl
    (fun q => State.pallet_setPallet (s.setEntry k .vacant) p q _) rfl rfl rfl ?_ ?_ ?_ ?_ ?_ ?_
  · rintro _ ⟨⟩
  · rintro _ ⟨⟩
  · intro q hq
    rw [hp] at hq
    cases hq
    rw [if_pos rfl, hout]
  · intro q _ hne
    rw [if_neg fun hpq : p = q => hne (hpq ▸ hp)]
  · intro q
    split
    · exact hvariant ▸ h.variants p
    · exact h.variants q
  · intro q
    split
    · exact hoffset ▸ h.offsets p
    · exact h.offsets q

/-! ### The pallet commands and a correction -/

/-- A station argument that names a station of the line (R15). -/
theorem inLine_of_lineStation {k : Fin 32} {j : StationNo} (h : s.lineStation k = some j) :
    s.inLine j = true := by
  rw [State.lineStation, Option.filter_eq_some_iff] at h
  exact h.2

/-- The station where a pallet stands is one of the line whose entry holds it (R6). -/
theorem stationOf_spec {p : PalletNo} {k : StationNo} (h : s.stationOf p = some k) :
    s.inLine k = true ∧ (s.entry k).pallet = some p := by
  have hmem := List.mem_of_find?_eq_some h
  have htest := List.find?_some h
  exact ⟨(List.mem_filter.mp hmem).2, by simpa using htest⟩

/-- INSERT taken (R16). -/
theorem Account.insertPallet (h : Account s) (p : PalletNo) (w : Fin 6) (d : Destination)
    (hw : w.val < s.config.params.variantCount.val) (hidle : s.indexing = false)
    (hout : (s.pallet p).service = .out) (hfree : s.destinationFree d = true) :
    Account (s.insertPallet p w d) := by
  have hzero : (Axes.zero).any (offsetClamped s.config.params.offsetLimit) = false := by
    simp [Axes.any, Axes.zero, offsetClamped]
  unfold State.insertPallet
  cases d with
  | queue =>
    exact h.enqueue p _ hidle hout (by simpa [State.destinationFree] using hfree) rfl hw hzero
  | station k =>
    cases hj : s.lineStation k with
    | none => simp [State.destinationFree, hj] at hfree
    | some j =>
      have hempty : (s.entry j).pallet = none := by
        simpa [State.destinationFree, hj, MapEntry.occupied] using hfree
      dsimp only
      split
      case h_2 hnone => exact nomatch hj.symm.trans hnone
      case h_1 j' hj' =>
        obtain rfl : j = j' := Option.some.inj (hj.symm.trans hj')
        refine h.replaceEntry (t := (s.setPallet p ((s.pallet p).inserted w)).setEntry j _) j
          ⟨some p, .predicted⟩
          (fun q => if p = q then (s.pallet p).inserted w else s.pallet q)
          (inLine_of_lineStation hj) hidle rfl (fun q => State.pallet_setPallet s p q _) rfl rfl rfl
          ?_ ?_ ?_ ?_ ?_ ?_
        · rintro _ ⟨⟩
          exact hout
        · rintro _ ⟨⟩
          simp [Pallet.inserted]
        · intro q hq
          simp [hempty] at hq
        · intro q hne _
          rw [if_neg fun hpq : p = q => hne (congrArg some hpq)]
        · intro q
          split
          · exact hw
          · exact h.variants q
        · intro q
          split
          · exact hzero
          · exact h.offsets q

/-- REMOVE taken of a pallet that stands on the map or in the queue (R17). -/
theorem Account.removePallet (h : Account s) (p : PalletNo) (hidle : s.indexing = false)
    (hremovable : s.removable p = true) : Account (s.removePallet p) := by
  cases hloc : s.location p with
  | none => simp [State.removable, hloc] at hremovable
  | queue i =>
    have hmem : p ∈ s.tracking.queue := by
      unfold State.location at hloc
      split at hloc
      · cases hloc
      · split at hloc
        · rename_i hfound
          obtain ⟨hi, hp, -⟩ := List.findIdx?_eq_some_iff_getElem.mp hfound
          exact (beq_iff_eq.mp hp) ▸ List.getElem_mem hi
        · cases hloc
    simp only [State.removePallet, hloc]
    exact h.unqueueOut p hmem
  | station k =>
    have hstation : s.stationOf p = some k := by
      unfold State.location at hloc
      split at hloc
      · rename_i hfound
        cases hloc
        exact hfound
      · split at hloc <;> cases hloc
    obtain ⟨hk, hp⟩ := stationOf_spec hstation
    simp only [State.removePallet, hloc]
    exact h.takeOff hk hidle hp _ rfl rfl rfl

/-- The record of each pallet after a correction (R25, R137). -/
def correctedRecord (s : State) (k : StationNo) (p : PalletNo) (arrives : Bool) (q : PalletNo) :
    Pallet :=
  let inWork : Bool := match (s.entry k).pallet with
    | some d => (s.pallet d).block == .inWork
    | none => false
  if q = p then
    { s.pallet p with
      service := .inService
      block := if inWork then .inWork else .empty
      gauged := (s.pallet p).gauged && !arrives }
  else if (s.entry k).pallet = some q then { s.pallet q with service := .out, lost := true }
  else s.pallet q

/-- A correction by a pallet other than the entry's own, record by record (R25). -/
theorem pallet_correctEntry (k : StationNo) (p : PalletNo) (arrives : Bool)
    (hne : (s.entry k).pallet ≠ some p) (q : PalletNo) :
    (s.correctEntry k p arrives).pallet q = correctedRecord s k p arrives q := by
  unfold State.correctEntry correctedRecord
  cases hd : (s.entry k).pallet with
  | none =>
    simp only [State.pallet_setEntry, State.pallet_setPallet, reduceCtorEq, if_false, eq_comm (a := q)]
  | some d =>
    have hdp : d ≠ p := fun h => hne (h ▸ hd)
    simp only [State.displace, State.pallet_setEntry, State.pallet_setPallet, if_neg hdp,
      Option.some.injEq, eq_comm (a := q)]
    by_cases hpq : p = q
    · rw [if_pos hpq, if_pos hpq]
    · rw [if_neg hpq, if_neg hpq]
      split
      case isTrue h => rw [h]
      case isFalse => rfl

theorem entry_correctEntry (k : StationNo) (p : PalletNo) (arrives : Bool) :
    (s.correctEntry k p arrives).entry = (s.setEntry k ⟨some p, .confirmed⟩).entry := by
  cases hd : (s.entry k).pallet <;> simp only [State.correctEntry, hd] <;> rfl

theorem correctEntry_frame (k : StationNo) (p : PalletNo) (arrives : Bool) :
    s.correctEntry k p arrives =
      { s with tracking := (s.correctEntry k p arrives).tracking } ∧
      (s.correctEntry k p arrives).tracking.queue = s.tracking.queue := by
  cases hd : (s.entry k).pallet <;> simp only [State.correctEntry, hd] <;> exact ⟨rfl, rfl⟩

/-- A correction by an OUT pallet: it comes in, the displaced one is OUT (R25). -/
theorem Account.correctEntry (h : Account s) (k : StationNo) (p : PalletNo) (arrives : Bool)
    (hk : s.inLine k = true) (hidle : s.indexing = false)
    (hout : (s.pallet p).service = .out) : Account (s.correctEntry k p arrives) := by
  have hne : (s.entry k).pallet ≠ some p := (h.nowhere hout).1 k
  obtain ⟨hframe, hqueue⟩ := correctEntry_frame (s := s) k p arrives
  refine h.replaceEntry k ⟨some p, .confirmed⟩ (correctedRecord s k p arrives) hk hidle
    (entry_correctEntry k p arrives) (pallet_correctEntry k p arrives hne) hqueue
    (by rw [hframe]) (by rw [hframe]) ?_ ?_ ?_ ?_ ?_ ?_
  · rintro _ ⟨⟩
    exact hout
  · rintro _ ⟨⟩
    rw [correctedRecord, if_pos rfl]
  · intro q hq
    rw [correctedRecord, if_neg fun hqp : q = p => hne (hqp ▸ hq), if_pos hq]
  · intro q hcomes hleaves
    rw [correctedRecord, if_neg fun hqp : q = p => hcomes (congrArg some hqp.symm), if_neg hleaves]
  · intro q
    unfold correctedRecord
    extract_lets
    split
    · exact h.variants p
    · split <;> exact h.variants q
  · intro q
    unfold correctedRecord
    extract_lets
    split
    · exact h.offsets p
    · split <;> exact h.offsets q

end Sys2Proof.Machine.Accounts
end

section
/-! SUPPORT. The pallet account over the map shift, new line parameters and power-on reset (R12, R26 to R28, R181, R182). -/

namespace Sys2Proof.Machine.Accounts

open Shifting Settings ConfigChecks

variable {s t : State}

/-! ### The map shift -/

theorem unloadStation_inLine (hcount : 3 ≤ s.stationCount) : s.inLine s.unloadStation = true := by
  have hlt : s.unloadStation.val < s.stationCount :=
    Nat.sub_lt (Nat.lt_of_lt_of_le (by decide) hcount) Nat.one_pos
  exact decide_eq_true hlt

/-- The pallet of the unload station has left it: its entry is empty, and it is OUT or at the queue tail (R26). -/
theorem Account.exited (h : Account s) (hcount : 3 ≤ s.stationCount) (hidle : s.indexing = false)
    (hroom : s.exitHasRoom = true) :
    Account (s.unloadExit.setEntry s.unloadStation .vacant) := by
  have hk := unloadStation_inLine hcount
  cases hu : (s.entry s.unloadStation).pallet with
  | none =>
    rw [unloadExit_of_none s hu]
    refine h.of_statuses rfl rfl rfl rfl (fun j => ?_) fun j hj => ?_
    · rw [State.entry_setEntry]
      split
      case isTrue hj => rw [← hj, hu]; rfl
      case isFalse => rfl
    · rw [State.entry_setEntry, if_neg fun hkj => by simp [← hkj, hk] at hj]
  | some u =>
    have hin : (s.pallet u).service ≠ .out := (h.stands u).mpr (.inl ⟨_, hu⟩)
    have hout : Account ((s.setEntry s.unloadStation .vacant).setPallet u
        { exits (s.pallet u) with service := .out }) :=
      h.takeOff hk hidle hu _ rfl rfl rfl
    rw [unloadExit_of_some s hu]
    cases hservice : (s.pallet u).service with
    | out => exact absurd hservice hin
    | quarantine =>
      have hrecord : { exits (s.pallet u) with service := .out } = exits (s.pallet u) := by
        simp [exits, hservice]
      have hqueue : exitQueue s = s.tracking.queue := by simp [exitQueue, hu, hservice]
      rw [hrecord] at hout
      refine hout.congr ?_ ?_ ?_
      · rw [hqueue]
        unfold State.addFaultIf
        split <;> rfl
      · unfold State.addFaultIf
        split <;> rfl
      · unfold State.addFaultIf
        split <;> exact id
    | inService =>
      have hplace : s.tracking.queue.length < s.config.params.returnCap := by
        simpa [State.exitHasRoom, hu, hservice] using hroom
      have hqueue : exitQueue s = s.tracking.queue ++ [u] := by simp [exitQueue, hu, hservice]
      have hback := hout.enqueue u (exits (s.pallet u)) hidle
        (by rw [State.pallet_setPallet, if_pos rfl]) hplace (by simp [exits, hservice])
        (h.variants u) (h.offsets u)
      rw [Gauge.setPallet_setPallet] at hback
      refine hback.congr ?_ ?_ ?_
      · rw [hqueue]
        unfold State.addFaultIf
        split <;> rfl
      · unfold State.addFaultIf
        split <;> rfl
      · unfold State.addFaultIf
        split <;> exact id

@[simp] theorem entry_moveEntries (k : StationNo) : s.moveEntries.entry k = s.shiftedEntry k := by
  simp [State.entry, State.moveEntries]

/-- The entries after the bar has moved, where the unload station was empty (R27). -/
theorem pallet_moveEntries (hbeyond : ∀ k, s.inLine k = false → s.entry k = .vacant)
    (k : StationNo) (p : PalletNo) :
    (s.moveEntries.entry k).pallet = some p ↔
      (k.val = 0 ∧ s.tracking.queue.head? = some p) ∨
        s.inLine k = true ∧ ∃ j : StationNo, j.val + 1 = k.val ∧ (s.entry j).pallet = some p := by
  rw [entry_moveEntries, State.shiftedEntry]
  split
  case isTrue hzero => simp [hzero]
  case isFalse hzero =>
    split
    case isTrue hline =>
      simp only [hzero, hline, false_and, true_and, false_or, MapEntry.carried]
      constructor
      · exact fun h => ⟨_, Nat.sub_one_add_one hzero, h⟩
      · rintro ⟨j, hj, hp⟩
        have hjk : (⟨k.val - 1, by omega⟩ : StationNo) = j := Fin.ext (by simp; omega)
        rwa [hjk]
    case isFalse hline => simp [hzero, hline, hbeyond k (by simpa using hline), MapEntry.vacant]

/-- The entries move forward past an empty unload station, and the queue head takes the load station (R27). -/
theorem Account.moveEntries (h : Account s) (hcount : 3 ≤ s.stationCount)
    (hidle : s.indexing = false) (hempty : (s.entry s.unloadStation).pallet = none) :
    Account s.moveEntries := by
  have hmap := pallet_moveEntries h.beyond
  have hhead (p : PalletNo) (hp : s.tracking.queue.head? = some p) : p ∈ s.tracking.queue :=
    List.mem_of_head? hp
  have hmem (p : PalletNo) : p ∈ s.tracking.queue ↔
      s.tracking.queue.head? = some p ∨ p ∈ s.tracking.queue.tail := by
    cases s.tracking.queue <;> simp [eq_comm]
  have hnotTail (p : PalletNo) (hp : s.tracking.queue.head? = some p) :
      p ∉ s.tracking.queue.tail := by
    have hnodup := h.queueOnce
    cases hq : s.tracking.queue with
    | nil => simp
    | cons a rest =>
      rw [hq] at hnodup hp
      cases hp
      exact (List.nodup_cons.mp hnodup).1
  have hqueue : s.moveEntries.tracking.queue = s.tracking.queue.tail := by
    unfold State.moveEntries; rfl
  have hpallet (p : PalletNo) : s.moveEntries.pallet p = s.pallet p := by
    unfold State.moveEntries State.pallet; rfl
  have hconfig : s.moveEntries.config = s.config := by rw [State.moveEntries]
  have hline (k : StationNo) : s.moveEntries.inLine k = s.inLine k := by
    rw [State.inLine, State.stationCount, hconfig, State.inLine, State.stationCount]
  refine
    { onMap := fun {i k p} hi hk => ?_, queueOnce := hqueue ▸ h.queueOnce.tail
      apart := fun {k p} hk => ?_, stands := fun p => ?_, queueRoom := ?_
      queueInService := fun p hp => ?_, beyond := fun k hk => ?_
      variants := fun p => ?_, offsets := fun p => ?_, room := fun hi => ?_ }
  · rw [hmap] at hi hk
    rcases hi with ⟨hi, hp⟩ | ⟨-, i', hi, hp⟩ <;> rcases hk with ⟨hk, hp'⟩ | ⟨-, k', hk, hp'⟩
    · exact Fin.ext (hi.trans hk.symm)
    · exact absurd (hhead p hp) (h.apart hp')
    · exact absurd (hhead p hp') (h.apart hp)
    · have hik : i'.val = k'.val := congrArg _ (h.onMap hp hp')
      exact Fin.ext (by omega)
  · rw [hqueue]
    rw [hmap] at hk
    rcases hk with ⟨-, hp⟩ | ⟨-, j, -, hp⟩
    · exact hnotTail p hp
    · exact fun hq => h.apart hp (List.mem_of_mem_tail hq)
  · have hmoved : (∃ k, (s.moveEntries.entry k).pallet = some p) ↔
        s.tracking.queue.head? = some p ∨ ∃ k, (s.entry k).pallet = some p := by
      simp only [hmap]
      constructor
      · rintro ⟨k, ⟨-, hp⟩ | ⟨-, j, -, hp⟩⟩
        · exact .inl hp
        · exact .inr ⟨j, hp⟩
      · rintro (hp | ⟨k, hp⟩)
        · exact ⟨0, .inl ⟨rfl, hp⟩⟩
        · have hin : s.inLine k = true := by
            by_contra hout
            simp [h.beyond k (by simpa using hout), MapEntry.vacant] at hp
          have hnot : k ≠ s.unloadStation := fun hk => by simp [hk, hempty] at hp
          have hlt : k.val + 1 < s.stationCount := by
            have hk : k.val < s.stationCount := of_decide_eq_true hin
            have hne : k.val ≠ s.stationCount - 1 := fun hk => hnot (Fin.ext hk)
            omega
          have hle : s.stationCount ≤ 28 := Nat.le_of_lt_succ s.config.params.stationCount.isLt
          exact ⟨⟨k.val + 1, by omega⟩, .inr ⟨decide_eq_true hlt, k, rfl, hp⟩⟩
    rw [hpallet, hmoved, hqueue, h.stands p, hmem p, or_assoc, or_left_comm]
  · rw [hqueue, hconfig, List.length_tail]
    exact (Nat.sub_le _ _).trans h.queueRoom
  · rw [hpallet]
    exact h.queueInService p (List.mem_of_mem_tail (hqueue ▸ hp))
  · rw [hline] at hk
    have hvacant := h.beyond k hk
    have hzero : k.val ≠ 0 := fun hzero => by
      have hlt : k.val < s.stationCount := by omega
      exact absurd (decide_eq_true hlt) (by simpa [State.inLine] using hk)
    rw [entry_moveEntries, State.shiftedEntry, if_neg hzero, if_neg (by simp [hk]), hvacant]
  · rw [hpallet, hconfig]; exact h.variants p
  · rw [hpallet, hconfig]; exact h.offsets p
  · rw [State.indexing, State.moveEntries] at hi
    exact absurd (hidle.symm.trans hi) Bool.false_ne_true

/-- What stands at the unload station has no part in the move of the entries (R27). -/
theorem moveEntries_setEntry (e : MapEntry) (hcount : 3 ≤ s.stationCount) :
    (s.setEntry s.unloadStation e).moveEntries = s.moveEntries := by
  have hline (k : StationNo) : (s.setEntry s.unloadStation e).inLine k = s.inLine k := rfl
  have hshifted (k : StationNo) :
      (s.setEntry s.unloadStation e).shiftedEntry k = s.shiftedEntry k := by
    have hunload : s.unloadStation.val = s.stationCount - 1 := rfl
    simp only [State.shiftedEntry, hline, State.entry_setEntry]
    split
    case isTrue => rfl
    case isFalse hzero =>
      split
      case isTrue hk =>
        have hlt : k.val < s.stationCount := of_decide_eq_true hk
        rw [if_neg fun hku : s.unloadStation = _ => by have := congrArg Fin.val hku; simp only at this; omega]
      case isFalse hk =>
        rw [if_neg fun hku : s.unloadStation = k => hk (hku ▸ unloadStation_inLine hcount)]
  rw [State.moveEntries, State.moveEntries]
  simp only [hshifted]
  rfl

/-- The map shift keeps the account where the queue has room for what leaves (R26 to R28). -/
theorem Account.mapShift (h : Account s) (hcount : 3 ≤ s.stationCount)
    (hidle : s.indexing = false) (hroom : s.exitHasRoom = true) : Account s.mapShift := by
  have hcount' : s.unloadExit.stationCount = s.stationCount := by
    rw [unloadExit_eq, State.stationCount, State.stationCount]
  have hunload : s.unloadExit.unloadStation = s.unloadStation := by
    rw [unloadExit_eq, State.unloadStation, State.unloadStation]
  have hgate : s.unloadExit.gate = s.gate := by rw [unloadExit_eq]
  have hmoved := (h.exited hcount hidle hroom).moveEntries
    (show 3 ≤ s.unloadExit.stationCount from hcount' ▸ hcount)
    (show s.unloadExit.indexing = false by rw [State.indexing, hgate]; exact hidle)
    (by
      have hsame : (s.unloadExit.setEntry s.unloadStation .vacant).unloadStation =
        s.unloadStation := hunload
      rw [hsame, State.entry_setEntry, if_pos rfl]; rfl)
  rw [← hunload, moveEntries_setEntry _ (hcount' ▸ hcount)] at hmoved
  exact hmoved

/-! ### Line parameters taken -/

/-- New line parameters fit the account: what a write touches by its checks, the rest as it was (R181, R182). -/
theorem Account.formed (h : Account s) (law : ConfigLaw s) {first : Nat} {size : Size} {data : Word}
    (htakes : s.paramsTake first size data = true) :
    (∀ k : StationNo, (s.formedParams first size data).stationCount.val ≤ k.val →
        (s.entry k).pallet = none) ∧
      s.tracking.queue.length ≤ (s.formedParams first size data).returnCap ∧
      (∀ p, (s.pallet p).service ≠ .out →
        (s.pallet p).variant.val < (s.formedParams first size data).variantCount.val) ∧
      s.offsetsWithin (s.formedParams first size data).offsetLimit = true := by
  obtain ⟨hstations, hcap, hvariants, hoffsets⟩ :=
    (lawTakes_iff _ _ _ _).mp (Bool.and_eq_true_iff.mp htakes).2
  have huntouched (at0 n : Nat) (hnot : ¬Touched first size at0 n) :
      leRead (formBytes s.config.params.byte first size data) at0 n =
        leRead s.config.params.byte at0 n :=
    leRead_formBytes_untouched _ _ _ _ ⟨at0, n, fun _ => true⟩
      (Bool.eq_false_iff.mpr fun ht => hnot ((touched_iff _ _ _).mp ht))
  refine ⟨?_, ?_, ?_, ?_⟩
  · by_cases ht : Touched first size 0x00 1
    · exact (freeFrom_iff _ _).mp (hstations ht)
    · intro k hk
      have hsame : (s.formedParams first size data).stationCount.val = s.stationCount := by
        show formBytes s.config.params.byte first size data 0x00 % 29 = _
        rw [← leRead_one (formBytes _ _ _ _), huntouched _ _ ht, leRead_one]
        exact Nat.mod_eq_of_lt s.config.params.stationCount.isLt
      rw [h.beyond k (decide_eq_false (by omega))]
      rfl
  · by_cases ht : Touched first size 0x01 1
    · exact hcap ht
    · have hmax := law.returnCap.2
      have hsame : (s.formedParams first size data).returnCap = s.config.params.returnCap := by
        show formBytes s.config.params.byte first size data 0x01 = _
        rw [← leRead_one (formBytes _ _ _ _), huntouched _ _ ht, leRead_one, LineParams.byte, byteOf]
        omega
      rw [hsame]
      exact h.queueRoom
  · by_cases ht : Touched first size 0x02 1
    · exact (variantsBelow_iff _ _).mp (hvariants ht)
    · intro p _
      have hsame : (s.formedParams first size data).variantCount.val =
          s.config.params.variantCount.val := by
        show formBytes s.config.params.byte first size data 0x02 % 7 = _
        rw [← leRead_one (formBytes _ _ _ _), huntouched _ _ ht, leRead_one]
        exact Nat.mod_eq_of_lt s.config.params.variantCount.isLt
      rw [hsame]
      exact h.variants p
  · by_cases ht : Touched first size 0x14 4
    · exact hoffsets ht
    · have hmax := law.offsetLimit.2
      have hsame : (s.formedParams first size data).offsetLimit = s.config.params.offsetLimit := by
        show leRead (formBytes s.config.params.byte first size data) 0x14 4 = _
        rw [huntouched _ _ ht, leRead_of_byteOf 0x14 _ s.config.params.offsetLimit 4 ?_]
        · exact Nat.mod_eq_of_lt (by omega)
        · intro i hi
          interval_cases i <;> rfl
      rw [hsame, offsetsWithin_iff]
      intro p
      simpa [Axes.any, offsetClamped, and_assoc] using h.offsets p

/-- New line parameters taken keep the account: positions that leave the line or join it are empty, and no pallet in service loses its variant (R181, R182). -/
theorem Account.takeParams (h : Account s) (law : ConfigLaw s) (hidle : s.indexing = false)
    {first : Nat} {size : Size} {data : Word} (htakes : s.paramsTake first size data = true) :
    Account (s.takeParams (s.formedParams first size data)) := by
  have hcount := (takeParams_configLaw first size data law htakes).variantCount
  obtain ⟨hfree, hroom, hbelow, hwithin⟩ := h.formed law htakes
  generalize s.formedParams first size data = p at hcount hfree hroom hbelow hwithin ⊢
  have hentry (k : StationNo) : (s.takeParams p).entry k =
      if k.val < min s.config.params.stationCount.val p.stationCount.val then s.entry k
      else .vacant := by
    simp [State.takeParams, State.entry]
  have hpallet (q : PalletNo) : (s.takeParams p).pallet q =
      if (s.pallet q).service = .out ∧ p.variantCount.val ≤ (s.pallet q).variant.val then
        { s.pallet q with variant := 0 }
      else s.pallet q := by
    simp [State.takeParams, State.pallet]
  have hqueue : (s.takeParams p).tracking.queue = s.tracking.queue := by simp [State.takeParams]
  have hparams : (s.takeParams p).config.params = p := by simp [State.takeParams]
  have hgate : (s.takeParams p).gate = s.gate := by simp [State.takeParams]
  have hservice (q : PalletNo) : ((s.takeParams p).pallet q).service = (s.pallet q).service := by
    rw [hpallet]
    split <;> rfl
  have hoffset (q : PalletNo) : ((s.takeParams p).pallet q).offset = (s.pallet q).offset := by
    rw [hpallet]
    split <;> rfl
  have hsame (k : StationNo) : ((s.takeParams p).entry k).pallet = (s.entry k).pallet := by
    rw [hentry]
    split
    case isTrue => rfl
    case isFalse hk =>
      rcases Nat.lt_or_ge k.val p.stationCount.val with hlt | hge
      · have hout : s.inLine k = false :=
          decide_eq_false fun hin : k.val < s.config.params.stationCount.val =>
            hk (Nat.lt_min.mpr ⟨hin, hlt⟩)
        rw [h.beyond k hout]
      · rw [hfree k hge]; rfl
  refine
    { onMap := fun hj hk => ?_, queueOnce := by rw [hqueue]; exact h.queueOnce
      apart := fun hk => ?_, stands := fun q => ?_, queueRoom := ?_
      queueInService := fun q hq => ?_, beyond := fun k hk => ?_
      variants := fun q => ?_, offsets := fun q => ?_, room := fun hi => ?_ }
  · rw [hsame] at hj hk
    exact h.onMap hj hk
  · rw [hsame] at hk
    rw [hqueue]
    exact h.apart hk
  · simp only [hservice, hsame, hqueue]
    exact h.stands q
  · rw [hqueue, hparams]
    exact hroom
  · rw [hservice]
    rw [hqueue] at hq
    exact h.queueInService q hq
  · rw [State.inLine, State.stationCount, hparams] at hk
    have hge : ¬k.val < p.stationCount.val := of_decide_eq_false hk
    rw [hentry, if_neg fun hlt => hge (Nat.lt_min.mp hlt).2]
  · rw [hparams, hpallet]
    split
    case isTrue => exact hcount
    case isFalse hnot =>
      by_cases hout : (s.pallet q).service = .out
      · exact Nat.lt_of_not_le fun hle => hnot ⟨hout, hle⟩
      · exact hbelow q hout
  · rw [hparams, hoffset]
    simpa [Axes.any, offsetClamped, and_assoc] using (offsetsWithin_iff _ _).mp hwithin q
  · rw [State.indexing, hgate] at hi
    exact absurd (hidle.symm.trans hi) Bool.false_ne_true

/-! ### Power-on reset -/

/-- Right after power-on reset every pallet is OUT and stands nowhere (R7, R10). -/
theorem Account.powerOn (ht : t.tracking = State.reset.tracking)
    (hp : t.config.params = .powerOn) (hi : t.indexing = false) : Account t := by
  have hentry (k : StationNo) : t.entry k = .vacant := by
    simp [State.entry, ht, State.reset]
  have hpallet (p : PalletNo) : t.pallet p = .powerOn := by
    simp [State.pallet, ht, State.reset]
  have hqueue : t.tracking.queue = [] := by rw [ht]; rfl
  refine
    { onMap := fun hj => ?_, queueOnce := ?_, apart := fun hk => ?_, stands := fun p => ?_
      queueRoom := ?_, queueInService := fun p hq => ?_, beyond := fun k _ => hentry k
      variants := fun p => ?_, offsets := fun p => ?_
      room := fun hin => absurd (hi.symm.trans hin) Bool.false_ne_true }
  · rw [hentry] at hj
    cases hj
  · rw [hqueue]
    exact List.nodup_nil
  · rw [hentry] at hk
    cases hk
  · simp [hpallet, hentry, hqueue, Pallet.powerOn, MapEntry.vacant]
  · rw [hqueue]
    exact Nat.zero_le _
  · rw [hqueue] at hq
    cases hq
  · rw [hpallet, hp]
    decide
  · rw [hpallet, hp]
    decide

end Sys2Proof.Machine.Accounts
end

section
/-! SUPPORT. What the standing laws look at, the operations that leave it alone, and what an operation that keeps every law is (R12, R31, R44, R81, R105). -/

namespace Sys2Proof.Machine.Keeping

open Settings Accounts

/-! ### An operation that keeps every law -/

/-- From s to t every standing law is kept, each with the laws it leans on. -/
structure Keeps (s t : State) : Prop where
  gate : GateLaw s → GateLaw t
  config : ConfigLaw s → ConfigLaw t
  account : GateLaw s → ConfigLaw s → Account s → Account t
  count : GateLaw s → ConfigLaw s → CountLaw s → CountLaw t
  engagement : GateLaw s → EngagementLaw s → EngagementLaw t

variable {s t u : State}

theorem Keeps.refl (s : State) : Keeps s s := ⟨id, id, fun _ _ h => h, fun _ _ h => h, fun _ h => h⟩

theorem Keeps.trans (h : Keeps s t) (h' : Keeps t u) : Keeps s u where
  gate hs := h'.gate (h.gate hs)
  config hs := h'.config (h.config hs)
  account hg hc ha := h'.account (h.gate hg) (h.config hc) (h.account hg hc ha)
  count hg hc hn := h'.count (h.gate hg) (h.config hc) (h.count hg hc hn)
  engagement hg he := h'.engagement (h.gate hg) (h.engagement hg he)

/-- What holds under the gate law may be used of the state left behind. -/
theorem Keeps.underGate (hconfig : ConfigLaw s → ConfigLaw t) (h : GateLaw s → Keeps s t) :
    Keeps s t where
  gate hs := (h hs).gate hs
  config := hconfig
  account hs := (h hs).account hs
  count hs := (h hs).count hs
  engagement hs := (h hs).engagement hs

/-- One of two states, each reached with the laws kept. -/
theorem Keeps.ite {c : Prop} [Decidable c] (ht : c → Keeps s t) (hu : ¬c → Keeps s u) :
    Keeps s (if c then t else u) := by
  split
  case isTrue h => exact ht h
  case isFalse h => exact hu h

/-- An operation made for each station in turn. -/
theorem Keeps.foldl (l : List StationNo) (f : State → StationNo → State)
    (hf : ∀ t k, Keeps t (f t k)) (s : State) : Keeps s (l.foldl f s) := by
  induction l generalizing s with
  | nil => exact .refl s
  | cons k l ih => exact (hf s k).trans (ih (f s k))

/-! ### States that the laws do not tell apart -/

/-- From s to t nothing changes that the gate law and the counts look at, the index timer's count aside: its due bit may rise while it runs, FROZEN_MID_INDEX may be cleared and attempts be spent. -/
structure Same (s t : State) : Prop where
  index : t.gate.state = s.gate.state := by rfl
  permit : t.gate.permit = s.gate.permit := by rfl
  motion : t.gate.motionSeen = s.gate.motionSeen := by rfl
  indexTimer : t.gate.timer.running = s.gate.timer.running := by rfl
  due : t.gate.timer.due = true → s.gate.timer.due = true ∨ s.gate.timer.running = true := by
    exact Or.inl
  frozen : t.gate.frozen = true → s.gate.frozen = true := by exact id
  state : t.line.state = s.line.state := by rfl
  stopPending : t.line.stopPending = s.line.stopPending := by rfl
  failed : t.line.failed = s.line.failed := by rfl
  clean : t.line.clean = s.line.clean := by rfl
  alignTimer : t.identity.timer.running = s.identity.timer.running := by rfl
  remaining : t.identity.remaining ≤ s.identity.remaining := by exact Nat.le_refl _
  enable : ∀ k, (t.station k).enable = (s.station k).enable := by intro _; rfl
  params : t.config.params = s.config.params := by rfl

/-- From s to t nothing changes that the laws look at, the account aside: an engagement may end, and a START may leave the port. -/
structure Still (s t : State) : Prop extends Same s t where
  count : t.gate.timer.running = true → s.gate.timer.count < s.config.params.indexLimit →
    t.gate.timer.count < s.config.params.indexLimit := by intro _ h; exact h
  engagement : ∀ k, (s.station k).engagement = none → (t.station k).engagement = none := by
    intro _ h; exact h
  start : ∀ r k c, t.classifier.record = some r → r.treatment = .cycleStart k c →
    ∃ r', s.classifier.record = some r' ∧ r'.treatment = .cycleStart k c := by
    intro r _ _ h h'; exact ⟨r, h, h'⟩

/-- Whether an index is in flight is the same (R29). -/
theorem Same.indexing (h : Same s t) : t.indexing = s.indexing := by
  rw [State.indexing, h.index, State.indexing]

theorem Same.inLine (h : Same s t) (k : StationNo) : t.inLine k = s.inLine k := by
  rw [State.inLine, State.stationCount, h.params, State.inLine, State.stationCount]

theorem Same.gateLaw (h : Same s t) (law : GateLaw s) : GateLaw t where
  permit := by rw [h.permit, h.indexing, law.permit]
  timer := by rw [h.indexTimer, h.indexing, law.timer]
  timerDue hd := by
    rw [h.indexTimer]
    exact (h.due hd).elim law.timerDue id
  motion hm := by
    rw [h.motion] at hm
    rw [h.indexing]
    exact law.motion hm
  inFlight hi := by
    rw [h.indexing] at hi
    rw [h.state]
    exact law.inFlight hi
  stopping hs := by
    rw [h.stopPending] at hs
    rw [h.indexing]
    exact law.stopping hs
  frozen hf := by
    rw [h.state]
    exact law.frozen (h.frozen hf)
  enables k := by
    rw [h.enable, law.enables, State.enablePermitted, State.enablePermitted, h.inLine, h.state,
      h.indexing]
  alignTimer := by rw [h.alignTimer, h.state, law.alignTimer]

theorem Still.countLaw (h : Still s t) (law : CountLaw s) : CountLaw t where
  failed := by rw [h.failed, h.params]; exact law.failed
  clean := by rw [h.clean, h.params]; exact law.clean
  setup hs := by
    rw [h.state] at hs
    rw [h.failed, h.clean]
    exact law.setup hs
  attempts := by
    rw [h.params]
    exact h.remaining.trans law.attempts
  timer hr := by
    rw [h.params]
    exact h.count hr (law.timer (h.indexTimer ▸ hr))

theorem Still.engagementLaw (h : Still s t) (law : EngagementLaw s) : EngagementLaw t where
  free hi k hk := by
    rw [h.indexing] at hi
    rw [h.inLine] at hk
    exact h.engagement k (law.free hi k hk)
  noStart r k c hr hc := by
    obtain ⟨r', hr', hc'⟩ := h.start r k c hr hc
    rw [h.indexing]
    exact law.noStart r' k c hr' hc'

/-- The settings and the pallet account seen to, the rest is as it was. -/
theorem Still.keepsWith (h : Still s t) (hconfig : ConfigLaw s → ConfigLaw t)
    (haccount : GateLaw s → ConfigLaw s → Account s → Account t) : Keeps s t where
  gate := h.gateLaw
  config := hconfig
  account := haccount
  count _ _ := h.countLaw
  engagement _ := h.engagementLaw

/-- The settings as they were, and the pallet account seen to. -/
theorem Still.keepsOf (h : Still s t) (hsettings : SameSettings t s)
    (haccount : GateLaw s → ConfigLaw s → Account s → Account t) : Keeps s t :=
  h.keepsWith (fun law => configLaw_congr law hsettings) haccount

/-- The settings and the tracking unit as they were. -/
theorem Still.keeps (h : Still s t) (hsettings : SameSettings t s := by exact ⟨rfl, rfl⟩)
    (htracking : t.tracking = s.tracking := by rfl) : Keeps s t :=
  h.keepsOf hsettings fun _ _ ha => ha.congr htracking h.params fun hi => h.indexing ▸ hi

/-! ### Small operations -/

theorem keeps_raise (f : Flag) : Keeps s (s.raise f) := Still.keeps {}

theorem keeps_raiseIf (c : Bool) (f : Flag) : Keeps s (s.raiseIf c f) :=
  .ite (fun _ => keeps_raise f) fun _ => .refl s

theorem keeps_addFault (f : CycleFault) : Keeps s (s.addFault f) := Still.keeps {}

theorem keeps_addFaultIf (c : Bool) (f : CycleFault) : Keeps s (s.addFaultIf c f) :=
  .ite (fun _ => keeps_addFault f) fun _ => .refl s

/-- A station's state replaced, its enable kept and no engagement made. -/
theorem keeps_setStation (k : StationNo) (st : Station) (he : st.enable = (s.station k).enable)
    (hg : (s.station k).engagement = none → st.engagement = none) : Keeps s (s.setStation k st) := by
  refine Still.keeps { enable := fun j => ?_, engagement := fun j hj => ?_ }
  · rw [State.station_setStation]
    split
    case isTrue h => exact h ▸ he
    case isFalse => rfl
  · rw [State.station_setStation]
    split
    case isTrue h => exact hg (h ▸ hj)
    case isFalse => exact hj

/-- Every station's state changed, the enables kept and no engagement made. -/
theorem keeps_mapStations (f : StationNo → Station → Station)
    (he : ∀ k st, (f k st).enable = st.enable)
    (hg : ∀ k st, st.engagement = none → (f k st).engagement = none) :
    Keeps s (s.mapStations f) := by
  refine Still.keeps { enable := fun k => ?_, engagement := fun k hk => ?_ } (by simp) (by simp)
  · rw [State.station_mapStations]; exact he k _
  · rw [State.station_mapStations]; exact hg k _ hk

/-- A change of the tracking unit alone that keeps the account. -/
theorem keeps_tracking (tracking : Tracking)
    (haccount : GateLaw s → ConfigLaw s → Account s → Account { s with tracking := tracking }) :
    Keeps s { s with tracking := tracking } :=
  Still.keepsOf {} ⟨rfl, rfl⟩ haccount

end Sys2Proof.Machine.Keeping
end

section
/-! SUPPORT. Entries to a line state keep every law: trips, alignment, and the line commands (R87 to R99, R120 to R125). -/

namespace Sys2Proof.Machine.Keeping

open Settings Accounts Tripping

variable {s t u : State}

/-- The index gate with no index in flight, as the law has it (R31, R41). -/
structure Idle (g : IndexGate) : Prop where
  state : g.state = .idle
  permit : g.permit = false := by rfl
  running : g.timer.running = false := by rfl
  due : g.timer.due = false := by rfl
  motion : g.motionSeen = false := by rfl

theorem indexing_eq_false : s.indexing = false ↔ s.gate.state = .idle := by
  rw [State.indexing, decide_eq_false_iff_not]
  cases s.gate.state <;> simp

theorem Idle.indexing (h : Idle s.gate) : s.indexing = false := indexing_eq_false.mpr h.state

/-- Without an index in flight the law leaves the gate idle. -/
theorem idle_of_gateLaw (law : GateLaw s) (hi : s.indexing = false) : Idle s.gate where
  state := indexing_eq_false.mp hi
  permit := law.permit.trans hi
  running := law.timer.trans hi
  due := Bool.eq_false_iff.mpr fun hd =>
    absurd ((law.timer.trans hi).symm.trans (law.timerDue hd)) Bool.false_ne_true
  motion := Bool.eq_false_iff.mpr fun hm => absurd (hi.symm.trans (law.motion hm)) Bool.false_ne_true

/-- A line state other than PRODUCING and RESTRICTED has no index in flight (R31). -/
theorem indexing_of_state (law : GateLaw s) (hp : s.line.state ≠ .producing)
    (hr : s.line.state ≠ .restricted) : s.indexing = false :=
  Bool.eq_false_iff.mpr fun hi => (law.inFlight hi).elim hp hr

/-- The gate abandoned is idle (R50). -/
theorem idle_toIdle (g : IndexGate) : Idle g.toIdle where
  state := rfl

theorem idle_abandonIndex : Idle s.abandonIndex.gate where
  state := rfl

/-- An entry to a line state with the gate idle makes the gate law anew. -/
theorem gateLaw_enterLine (l : LineState) (hidle : Idle u.gate)
    (hstop : u.line.stopPending = true → l.endsStop = true)
    (hfrozen : u.gate.frozen = true → l = .tripped ∨ l = .setup)
    (htimer : u.identity.timer.running = true ↔ l = .aligning) : GateLaw (u.enterLine l) := by
  have hindexing : (u.enterLine l).indexing = false := by
    rw [State.indexing, State.enterLine_gate]
    exact hidle.indexing
  have hstate : (u.enterLine l).line.state = l := by rw [State.line_enterLine]
  refine
    { permit := ?_, timer := ?_, timerDue := fun hd => ?_, motion := fun hm => ?_
      inFlight := fun hi => ?_, stopping := fun hs => ?_, frozen := fun hf => ?_
      enables := fun k => ?_, alignTimer := ?_ }
  · rw [hindexing, State.enterLine_gate, hidle.permit]
  · rw [hindexing, State.enterLine_gate, hidle.running]
  · rw [State.enterLine_gate, hidle.due] at hd
    cases hd
  · rw [State.enterLine_gate, hidle.motion] at hm
    cases hm
  · exact absurd (hindexing.symm.trans hi) Bool.false_ne_true
  · rw [State.line_enterLine, Bool.and_eq_true, Bool.not_eq_true'] at hs
    exact absurd (hs.2.symm.trans (hstop hs.1)) Bool.false_ne_true
  · rw [State.enterLine_gate] at hf
    rw [hstate]
    exact hfrozen hf
  · rw [State.station_enterLine, State.enablePermitted, hstate, hindexing, hidle.indexing,
      State.inLine, State.inLine, State.stationCount, State.stationCount, State.enterLine_config]
  · rw [State.enterLine_identity, hstate]
    exact htimer

/-- With no index in flight nothing is asked of the engagements (R44). -/
theorem engagementLaw_of_idle (hi : s.indexing = false) : EngagementLaw s where
  free h := absurd (hi.symm.trans h) Bool.false_ne_true
  noStart _ _ _ _ _ := hi

/-- An entry to a line state with the gate idle keeps every law, where the counts of the state left behind, as it is entered, do. -/
theorem keeps_enterLine (l : LineState)
    (hland : GateLaw s → Idle u.gate ∧ (u.line.stopPending = true → l.endsStop = true) ∧
      (u.gate.frozen = true → l = .tripped ∨ l = .setup) ∧
      (u.identity.timer.running = true ↔ l = .aligning))
    (hcounts : ConfigLaw s → CountLaw s →
      u.line.failed ≤ s.config.params.failHalt ∧ u.line.clean < s.config.params.recoverCycles ∧
      (l = .setup → u.line.failed = 0 ∧ u.line.clean = 0) ∧
      u.identity.remaining ≤ s.config.params.alignAttempts)
    (hsettings : SameSettings u s := by exact ⟨rfl, rfl⟩)
    (htracking : u.tracking = s.tracking := by rfl) : Keeps s (u.enterLine l) := by
  have hindexing (law : GateLaw s) : (u.enterLine l).indexing = false := by
    rw [State.indexing, State.enterLine_gate]
    exact (hland law).1.indexing
  have hset : SameSettings (u.enterLine l) s := by simpa using hsettings
  refine
    { gate := fun law => ?_, config := fun law => configLaw_congr law hset
      account := fun law _ ha => ?_, count := fun law hc hn => ?_
      engagement := fun law _ => engagementLaw_of_idle (hindexing law) }
  · obtain ⟨hidle, hstop, hfrozen, htimer⟩ := hland law
    exact gateLaw_enterLine l hidle hstop hfrozen htimer
  · refine ha.congr (by rw [State.enterLine_tracking, htracking])
      (by rw [State.enterLine_config, hsettings.1]) fun hi => ?_
    exact absurd ((hindexing law).symm.trans hi) Bool.false_ne_true
  · obtain ⟨hfailed, hclean, hsetup, hattempts⟩ := hcounts hc hn
    have hconfig : (u.enterLine l).config = s.config := hset.1
    have hgate := (hland law).1.running
    exact
      { failed := by rw [hconfig, State.line_enterLine]; exact hfailed
        clean := by rw [hconfig, State.line_enterLine]; exact hclean
        setup := by rw [State.line_enterLine]; exact hsetup
        attempts := by rw [hconfig, State.enterLine_identity]; exact hattempts
        timer := fun hr => by
          rw [State.enterLine_gate, hgate] at hr
          cases hr }

/-- The counts as they were, where SETUP is not entered. -/
theorem counts_of_same (l : LineState) (hl : l ≠ .setup) (hfailed : u.line.failed = s.line.failed)
    (hclean : u.line.clean = s.line.clean)
    (hattempts : u.identity.remaining ≤ s.identity.remaining) (hn : CountLaw s) :
    u.line.failed ≤ s.config.params.failHalt ∧ u.line.clean < s.config.params.recoverCycles ∧
      (l = .setup → u.line.failed = 0 ∧ u.line.clean = 0) ∧
      u.identity.remaining ≤ s.config.params.alignAttempts :=
  ⟨hfailed ▸ hn.failed, hclean ▸ hn.clean, fun h => absurd h hl, hattempts.trans hn.attempts⟩

/-- STOP_PENDING stands only while an index is in flight (R91). -/
theorem stopPending_of_idle (law : GateLaw s) (hi : s.indexing = false) :
    s.line.stopPending = false :=
  Bool.eq_false_iff.mpr fun hs => absurd (hi.symm.trans (law.stopping hs)) Bool.false_ne_true

/-! ### Trips -/

/-- A trip that is taken keeps every law, whatever its index timer has counted (R94). -/
theorem keeps_trip_of (cause : TripCause) (h : Same s u)
    (htaken : u.lineIn [.setup, .tripped] = false)
    (hsettings : SameSettings u s := by exact ⟨rfl, rfl⟩)
    (htracking : u.tracking = s.tracking := by rfl) : Keeps s (u.trip cause) := by
  rw [trip_taken u cause htaken]
  refine keeps_enterLine .tripped (fun law => ?_) (fun _ hn => ?_) hsettings htracking
  · have hlaw := h.gateLaw law
    refine ⟨?_, fun _ => rfl, fun _ => .inl rfl, ?_⟩
    · rw [beforeTrip]
      dsimp only
      split
      case isTrue => exact { state := rfl }
      case isFalse hi => exact idle_of_gateLaw hlaw (Bool.eq_false_iff.mpr hi)
    · rw [beforeTrip]
      dsimp only
      split
      case isTrue => simp [MarkTimer.stop]
      case isFalse hl => simp [hlaw.alignTimer, hl]
  · refine counts_of_same _ nofun h.failed h.clean (Nat.le_trans ?_ h.remaining) hn
    rw [beforeTrip]
    dsimp only
    split <;> exact Nat.le_refl _

/-- A trip claim keeps every law (R93, R94). -/
theorem keeps_trip (cause : TripCause) : Keeps s (s.trip cause) := by
  cases h : s.lineIn [.setup, .tripped] with
  | true => rw [State.trip_not_taken s cause h]; exact .refl s
  | false => exact keeps_trip_of cause {} h

/-! ### Line commands and alignment -/

/-- An entry to a line state from one with no index in flight, the gate as it was. -/
theorem keeps_enterLine_idle (l : LineState) (hidle : GateLaw s → s.indexing = false)
    (hfrozen : GateLaw s → s.gate.frozen = true → l = .setup)
    (htimer : GateLaw s → (u.identity.timer.running = true ↔ l = .aligning))
    (hcounts : ConfigLaw s → CountLaw s →
      u.line.failed ≤ s.config.params.failHalt ∧ u.line.clean < s.config.params.recoverCycles ∧
      (l = .setup → u.line.failed = 0 ∧ u.line.clean = 0) ∧
      u.identity.remaining ≤ s.config.params.alignAttempts)
    (hsettings : SameSettings u s := by exact ⟨rfl, rfl⟩)
    (hgate : u.gate = s.gate := by rfl) (hstop : u.line.stopPending = s.line.stopPending := by rfl)
    (htracking : u.tracking = s.tracking := by rfl) : Keeps s (u.enterLine l) := by
  refine keeps_enterLine l (fun law => ?_) hcounts hsettings htracking
  rw [hgate, hstop]
  refine ⟨idle_of_gateLaw law (hidle law), fun hs => ?_, fun hf => .inr (hfrozen law hf), htimer law⟩
  exact absurd ((stopPending_of_idle law (hidle law)).symm.trans hs) Bool.false_ne_true

/-- Alignment succeeds in ALIGNING (R122). -/
theorem keeps_checkAligned : Keeps s s.checkAligned := by
  refine .ite (fun ⟨haligning, _⟩ => ?_) fun _ => .refl s
  refine Keeps.trans (t := s.endAlignment.enterProduction) ?_ (keeps_raiseIf _ _)
  refine keeps_enterLine_idle .producing (fun law => ?_) (fun law hf => ?_) (fun _ => ?_)
    fun hc hn => ⟨Nat.zero_le _, hc.recoverCycles.1, nofun, hn.attempts⟩
  · exact indexing_of_state law (by simp [haligning]) (by simp [haligning])
  · exact absurd (law.frozen hf) (by simp [haligning])
  · simp [State.endAlignment, MarkTimer.stop]

/-- Statuses of the line's entries changed, their pallets kept. -/
theorem keeps_statuses (map : Vector MapEntry 28)
    (hentry : ∀ k : StationNo, (map[k.val]).pallet = (s.entry k).pallet)
    (hbeyond : ∀ k : StationNo, s.inLine k = false → map[k.val] = s.entry k) :
    Keeps s { s with tracking := { s.tracking with map := map } } :=
  keeps_tracking _ fun _ _ ha => ha.of_statuses rfl rfl rfl rfl hentry hbeyond

/-- A status claim at a station of the line (R24). -/
theorem keeps_setStatus (k : StationNo) (st : Status) (hk : s.inLine k = true) :
    Keeps s (s.setStatus k st) :=
  keeps_tracking _ fun _ _ ha => ha.setStatus k st hk

theorem keeps_resetUncertain : Keeps s s.resetUncertain := by
  refine keeps_statuses _ (fun k => ?_) fun k hk => ?_
  · rw [Vector.getElem_ofFn]
    dsimp only
    split <;> rfl
  · rw [Vector.getElem_ofFn]
    dsimp only
    rw [if_neg (by simp [State.isReaderStation, hk])]

/-- An attempt starts anew, with no more attempts left than there were (R121). -/
theorem keeps_restart (x : Identity) (hx : x.timer.running = true)
    (hremaining : x.remaining ≤ s.identity.remaining) (h : GateLaw s → s.line.state = .aligning) :
    Keeps s { s with identity := x } where
  gate law := Same.gateLaw
    { remaining := hremaining, alignTimer := hx.trans (law.alignTimer.mpr (h law)).symm } law
  config law := configLaw_congr law ⟨rfl, rfl⟩
  account _ _ ha := ha.congr rfl rfl id
  count law _ hn := Still.countLaw
    { remaining := hremaining, alignTimer := hx.trans (law.alignTimer.mpr (h law)).symm } hn
  engagement law he := Still.engagementLaw
    { remaining := hremaining, alignTimer := hx.trans (law.alignTimer.mpr (h law)).symm } he

/-- An alignment attempt fails in ALIGNING: one attempt fewer, and the next starts or the line stops (R121, R123, R124). -/
theorem keeps_failAttempt (h : GateLaw s → s.line.state = .aligning) : Keeps s s.failAttempt := by
  refine .ite (fun _ => ?_) fun _ => ?_
  · refine keeps_enterLine_idle .stopped (fun law => ?_) (fun law hf => ?_) (fun _ => ?_)
      fun _ hn => counts_of_same _ nofun rfl rfl (Nat.sub_le _ _) hn
    · exact indexing_of_state law (by simp [h law]) (by simp [h law])
    · exact absurd (law.frozen hf) (by simp [h law])
    · simp [MarkTimer.stop, State.raise]
  · have hrestart : Keeps s
        { s with identity := { s.identity with
          remaining := s.identity.remaining - 1, timer := .restart } } :=
      keeps_restart _ rfl (Nat.sub_le _ _) h
    exact (hrestart.trans keeps_resetUncertain).trans keeps_checkAligned

/-- The align timer's boundary (R123). -/
theorem keeps_takeAlignBoundary : Keeps s s.takeAlignBoundary := by
  refine .ite (fun hrunning => ?_) fun _ => .refl s
  have htimer : s.identity.timer.running = true := (Bool.and_eq_true_iff.mp hrunning).1
  have hcounted : Keeps s
      { s with identity := { s.identity with timer := ⟨s.identity.timer.count + 1, true, false⟩ } } :=
    Still.keeps { alignTimer := htimer.symm }
  exact hcounted.trans (keeps_failAttempt fun law => law.alignTimer.mp rfl)

/-- The identity checker has no part in an entry to a line state. -/
theorem enterLine_withIdentity (l : LineState) (x : Identity) :
    { s.enterLine l with identity := x } = { s with identity := x }.enterLine l := by
  unfold State.enterLine State.raiseIf
  dsimp only
  split <;> rfl

/-- BEGIN_ALIGN taken in PREPARED or STOPPED (R89, R120). -/
theorem keeps_beginAlignment (h : s.line.state = .prepared ∨ s.line.state = .stopped) :
    Keeps s s.beginAlignment := by
  have hidle (law : GateLaw s) : s.indexing = false :=
    indexing_of_state law (by rcases h with h | h <;> simp [h]) (by rcases h with h | h <;> simp [h])
  have hfrozen (law : GateLaw s) (l : LineState) (hf : s.gate.frozen = true) : l = .setup :=
    absurd (law.frozen hf) (by rcases h with h | h <;> simp [h])
  have hstopped (law : GateLaw s) : s.identity.timer.running = false :=
    Bool.eq_false_iff.mpr fun hr => by
      have haligning := law.alignTimer.mp hr
      rcases h with h | h <;> simp [h] at haligning
  refine .ite (fun _ => ?_) fun _ => ?_
  · refine Keeps.trans ?_ keeps_checkAligned
    rw [enterLine_withIdentity]
    exact keeps_enterLine_idle .aligning hidle (fun law => hfrozen law _)
      (fun law => by simp [MarkTimer.restart])
      fun _ hn => ⟨hn.failed, hn.clean, nofun, by simp⟩
  · exact keeps_enterLine_idle .producing hidle (fun law => hfrozen law _)
      (fun law => by simp [hstopped law])
      fun hc _ => ⟨Nat.zero_le _, hc.recoverCycles.1, nofun, Nat.le_refl _⟩

/-- STOP_PENDING set while an index is in flight (R90). -/
theorem keeps_stopPending (hi : s.indexing = true) :
    Keeps s { s with line := { s.line with stopPending := true } } where
  gate law := { law with stopping := fun _ => hi }
  config law := configLaw_congr law ⟨rfl, rfl⟩
  account _ _ ha := ha.congr rfl rfl id
  count _ _ hn := { hn with }
  engagement _ he := { he with }

/-- STOP taken (R90, R91). -/
theorem keeps_stopLine : Keeps s s.stopLine := by
  have hstopped : s.line.state = .producing ∨ s.line.state = .restricted → Keeps s
      (if s.indexing then { s with line := { s.line with stopPending := true } }
        else s.enterLine .stopped) := fun hs => by
    refine .ite (fun hi => keeps_stopPending hi) fun hi => ?_
    refine keeps_enterLine_idle .stopped (fun _ => Bool.eq_false_iff.mpr hi) (fun law hf => ?_)
      (fun law => ?_) fun _ hn => counts_of_same _ nofun rfl rfl (Nat.le_refl _) hn
    · exact absurd (law.frozen hf) (by rcases hs with h | h <;> simp [h])
    · rcases hs with h | h <;> simp [law.alignTimer, h]
  unfold State.stopLine
  split
  case h_1 hs =>
    refine keeps_enterLine_idle .stopped (fun law => ?_) (fun law hf => ?_) (fun _ => ?_)
      fun _ hn => counts_of_same _ nofun rfl rfl (Nat.le_refl _) hn
    · exact indexing_of_state law (by simp [hs]) (by simp [hs])
    · exact absurd (law.frozen hf) (by simp [hs])
    · simp [MarkTimer.stop, State.endAlignment]
  case h_2 hs => exact hstopped (.inl hs)
  case h_3 hs => exact hstopped (.inr hs)
  all_goals exact .refl s

/-- CLOSE_SETUP taken in SETUP with no index to resolve (R86, R88). -/
theorem keeps_closeSetup (h : s.line.state = .setup) (hfrozen : s.gate.frozen = false) :
    Keeps s (s.enterLine .prepared) := by
  refine keeps_enterLine_idle .prepared (fun law => ?_) (fun _ hf => ?_) (fun law => ?_)
    fun _ hn => counts_of_same _ nofun rfl rfl (Nat.le_refl _) hn
  · exact indexing_of_state law (by simp [h]) (by simp [h])
  · exact absurd (hfrozen.symm.trans hf) Bool.false_ne_true
  · simp [law.alignTimer, h]

/-- OPEN_SETUP taken in PREPARED, STOPPED or TRIPPED (R87). -/
theorem keeps_enterSetup
    (h : s.line.state = .prepared ∨ s.line.state = .stopped ∨ s.line.state = .tripped) :
    Keeps s s.enterSetup := by
  unfold State.enterSetup
  refine keeps_enterLine_idle .setup (fun law => ?_) (fun _ _ => rfl) (fun law => ?_)
    (fun hc hn => by simp [hn.attempts]; exact hc.recoverCycles.1) (by simp) (by simp) (by simp)
    (by simp)
  · exact indexing_of_state law (by rcases h with h | h | h <;> simp [h])
      (by rcases h with h | h | h <;> simp [h])
  · have haligning := law.alignTimer
    rcases h with h | h | h <;> simpa [h] using haligning

end Sys2Proof.Machine.Keeping
end

section
/-! SUPPORT. An index accepted, completed and resolved, its marks and the tick keep every law (R36, R39 to R46, R53). -/

namespace Sys2Proof.Machine.Keeping

open Settings Accounts Tripping Completing

variable {s t u : State}

/-! ### Acceptance -/

/-- The places of a map position test that no station passes. -/
theorem not_engaged_of_checks {override : Bool}
    (h : firstFailure (s.indexChecks override) = none) :
    (s.line.state = .producing ∨ s.line.state = .restricted) ∧ s.line.stopPending = false ∧
      s.exitHasRoom = true ∧ ∀ k, s.inLine k = true → (s.station k).engagement = none := by
  have hall := (firstFailure_eq_none _).mp h
  simp only [State.indexChecks, List.forall_mem_cons] at hall
  obtain ⟨hin, hstop, -, -, -, -, -, hengaged, -, hroom, -⟩ := hall
  refine ⟨by simpa [State.lineIn] using hin, by simpa using hstop, hroom, fun k hk => ?_⟩
  have hnone : ∀ j, s.inLine j = true → (s.station j).engagement = none := by
    simpa [allStations, State.engagedAt] using hengaged
  exact hnone k hk

/-- An index accepted with its checks passed and the port empty (R33, R35, R36). -/
theorem keeps_acceptIndex {override : Bool} (h : firstFailure (s.indexChecks override) = none)
    (hrecord : s.classifier.record = none) : Keeps s s.acceptIndex := by
  obtain ⟨hstate, hstop, hroom, hfree⟩ := not_engaged_of_checks h
  have hgate : s.acceptIndex.gate =
      { s.gate with state := .indexing, motionSeen := false, timer := .restart, permit := true } := by
    simp [State.acceptIndex]
  have hindexing : s.acceptIndex.indexing = true := by simp [State.indexing, hgate]
  have hline : s.acceptIndex.line = { s.line with current := s.acceptIndex.line.current } := by
    simp [State.acceptIndex, line_addFaultIf]
  have hsettings := acceptIndex_settings s
  have htracking : s.acceptIndex.tracking = s.tracking := by simp [State.acceptIndex]
  have hidentity : s.acceptIndex.identity = s.identity := by simp [State.acceptIndex]
  have hinLine (k : StationNo) : s.acceptIndex.inLine k = s.inLine k := by
    rw [State.inLine, State.stationCount, hsettings.1, State.inLine, State.stationCount]
  refine
    { gate := fun law => ?_, config := fun law => configLaw_congr law hsettings
      account := fun _ _ ha => ?_, count := fun _ hc hn => ?_, engagement := fun _ he => ?_ }
  · exact
      { permit := by rw [hindexing, hgate]
        timer := by rw [hindexing, hgate]; rfl
        timerDue := fun hd => by rw [hgate] at hd; cases hd
        motion := fun _ => hindexing
        inFlight := fun _ => by rw [hline]; exact hstate
        stopping := fun _ => hindexing
        frozen := fun hf => by
          rw [hgate] at hf
          rw [hline]
          exact law.frozen hf
        enables := fun k => by simp [State.acceptIndex, State.enablePermitted, State.indexing]
        alignTimer := by rw [hidentity, hline]; exact law.alignTimer }
  · exact ha.congr_room htracking (by rw [hsettings.1]) fun _ => hroom
  · exact
      { failed := by rw [hline, hsettings.1]; exact hn.failed
        clean := by rw [hline, hsettings.1]; exact hn.clean
        setup := by rw [hline]; exact hn.setup
        attempts := by rw [hidentity, hsettings.1]; exact hn.attempts
        timer := fun _ => by rw [hgate, hsettings.1]; exact hc.indexLimit.1 }
  · exact
      { free := fun _ k hk => by
          rw [hinLine] at hk
          have hstation : (s.acceptIndex.station k).engagement = (s.station k).engagement := by
            simp only [State.acceptIndex, State.station_refreshEnables]
            simp [State.station]
          rw [hstation]
          exact hfree k hk
        noStart := fun r _ _ hr _ => by
          have hnone : s.acceptIndex.classifier.record = none := by
            simpa [State.acceptIndex] using hrecord
          exact absurd (hnone.symm.trans hr) nofun }

/-- Motion seen while an index is in flight (R41). -/
theorem keeps_motionSeen (hi : s.indexing = true) :
    Keeps s { s with gate := { s.gate with motionSeen := true } } where
  gate law := { law with motion := fun _ => hi }
  config law := configLaw_congr law ⟨rfl, rfl⟩
  account _ _ ha := ha.congr rfl rfl id
  count _ _ hn := { hn with }
  engagement _ he := { he with }

/-! ### The marks of the index timer -/

/-- The index timer's boundary that is due (R39, R40). -/
theorem keeps_takeIndexBoundary : Keeps s s.takeIndexBoundary := by
  refine .ite (fun hdue => ?_) fun _ => .refl s
  simp only [Bool.and_eq_true] at hdue
  obtain ⟨⟨hrunning, -⟩, -⟩ := hdue
  have hsame : Same s
      ({ s with gate := { s.gate with timer := ⟨s.gate.timer.count + 1, true, false⟩ } }.raiseIf
        (s.gate.timer.count + 1 = s.config.params.indexSlow) .slowIndex) := by
    unfold State.raiseIf
    split <;> exact { indexTimer := hrunning.symm, due := nofun }
  have hsettings : SameSettings
      ({ s with gate := { s.gate with timer := ⟨s.gate.timer.count + 1, true, false⟩ } }.raiseIf
        (s.gate.timer.count + 1 = s.config.params.indexSlow) .slowIndex) s := by simp
  refine .ite (fun hlimit => ?_) fun hlimit => ?_
  · refine Keeps.underGate (fun law => configLaw_congr law (by simp)) fun law => ?_
    have hi : s.indexing = true := law.timer.symm.trans hrunning
    refine keeps_trip_of .indexTimeout hsame (Bool.eq_false_iff.mpr fun hin => ?_) hsettings (by simp)
    rw [State.lineIn, State.raiseIf_line] at hin
    rcases law.inFlight hi with h | h <;> simp [h] at hin
  · exact Still.keeps
      { hsame with
        count := fun _ hlt => by
          rw [State.raiseIf_gate]
          exact Nat.lt_of_le_of_ne hlt hlimit
        engagement := fun k hk => by simpa [State.station] using hk
        start := fun r k c hr hc => ⟨r, by simpa using hr, hc⟩ } hsettings (by simp)

/-! ### Completion and resolution -/

/-- The verdict keeps the counts in their bounds (R105). -/
theorem verdict_counts {j : State} {ending : BitVec 8} (hhalt : 1 ≤ j.config.params.failHalt)
    (hrecover : 1 ≤ j.config.params.recoverCycles)
    (hclean : j.line.clean < j.config.params.recoverCycles) :
    (verdict j ending).2.1 ≤ j.config.params.failHalt ∧
      (verdict j ending).2.2 < j.config.params.recoverCycles := by
  unfold verdict
  extract_lets count restricted
  have hcount : count ≤ j.config.params.failHalt := by
    simp only [count]
    split <;> omega
  clear_value count
  split_ifs <;> simp only <;> omega

/-- The checks of every entry against presence keep the account (R118). -/
theorem account_presenceCheck (ha : Account s) : Account s.presenceCheck := by
  rw [presenceCheck_eq]
  refine ha.of_statuses rfl rfl rfl rfl (fun k => ?_) fun k hk => ?_
  · rw [← pallet_checkedEntry s k]
    simp [State.entry]
  · have hentry : s.checkedEntry k = s.entry k := by
      unfold State.checkedEntry
      simp [hk]
    rw [← hentry]
    simp [State.entry]

/-- The account of a completion (R12, R26 to R28). -/
theorem account_completeIndex (hcount : 3 ≤ s.stationCount) (hi : s.indexing = true)
    (ha : Account s) : Account s.completeIndex := by
  have hidle : s.gateCompletion.indexing = false := by
    rw [State.indexing, gateCompletion_eq]
    rfl
  have hgated : Account s.gateCompletion :=
    ha.congr (by rw [gateCompletion_eq]) (by rw [gateCompletion_eq]) fun _ => hi
  have hroom : s.gateCompletion.exitHasRoom = true := by
    rw [gateCompletion_eq]
    exact ha.room hi
  have hcount' : 3 ≤ s.gateCompletion.stationCount := by
    rw [State.stationCount, gateCompletion_eq]
    exact hcount
  have haccounted := (account_presenceCheck
    (hgated.mapShift hcount' hidle hroom)).ungaugedAccounting s.gaugedPallet
  have hgate : s.completeIndex.indexing = false := by
    rw [State.indexing, gate_completeIndex]
    rfl
  have hchecked : s.gateCompletion.mapShift.presenceCheck.ungaugedAccounting s.gaugedPallet =
      completed s (s.mapShift.ungaugedAccounting s.gaugedPallet) := accounted_completed
  rw [hchecked] at haccounted
  refine haccounted.congr ?_ ?_ fun h => absurd (hgate.symm.trans h) Bool.false_ne_true
  · rw [tracking_completeIndex, judgedFrom, State.resetUnits, State.mapStations_tracking]
  · have hconfig := accounted_mapShift (s := s)
    rw [config_completeIndex]
    generalize s.mapShift.ungaugedAccounting s.gaugedPallet = x at hconfig ⊢
    rw [hconfig]
    rfl

/-- A completion keeps every law (R45, R48). -/
theorem keeps_completeIndex (hi : s.indexing = true) : Keeps s s.completeIndex := by
  have hsettings := completeIndex_settings s
  have hgate := gate_completeIndex (s := s)
  have hidle : s.completeIndex.indexing = false := by
    rw [State.indexing, hgate]
    rfl
  have hidentity : s.completeIndex.identity = s.identity := by rw [completeIndex_frame.2]
  have hjudged : (judgedFrom s).line = { s.line with current := (judgedFrom s).line.current } := by
    rw [line_judgedFrom, completedLine_eq]
  have hstate (law : GateLaw s) : s.completeIndex.line.state = .producing ∨
      s.completeIndex.line.state = .restricted ∨ s.completeIndex.line.state = .stopped := by
    rw [(evaluated_completeIndex (law.inFlight hi)).line]
    dsimp only
    split
    · exact .inr (.inr rfl)
    · exact verdict_state _
  refine
    { gate := fun law => ?_, config := fun law => configLaw_congr law hsettings
      account := fun law hc ha => account_completeIndex hc.stationCount hi ha
      count := fun law hc hn => ?_, engagement := fun _ _ => engagementLaw_of_idle hidle }
  · have hs := law.inFlight hi
    have hline := (evaluated_completeIndex hs).line
    refine
      { permit := ?_, timer := ?_, timerDue := fun hd => ?_, motion := fun hm => ?_
        inFlight := fun hin => absurd (hidle.symm.trans hin) Bool.false_ne_true
        stopping := fun hp => ?_, frozen := fun hf => ?_, enables := fun k => ?_
        alignTimer := ?_ }
    · rw [hidle, hgate]; rfl
    · rw [hidle, hgate]; rfl
    · rw [hgate] at hd; cases hd
    · rw [hgate] at hm; cases hm
    · rw [hline] at hp; cases hp
    · rw [hgate] at hf
      exact absurd (law.frozen hf) (by rcases hs with h | h <;> simp [h])
    · rw [station_completeIndex hs, State.enablePermitted, permitsEnables_completeIndex hs, hidle,
        State.inLine, State.inLine, State.stationCount, State.stationCount, hsettings.1]
      simp
    · rw [hidentity, law.alignTimer]
      rcases hs with h | h <;> rcases hstate law with h' | h' | h' <;> simp [h, h']
  · have hs := law.inFlight hi
    have hline := (evaluated_completeIndex hs).line
    have hconfig := config_judgedFrom (s := s)
    have hbounds := verdict_counts (j := judgedFrom s) (ending := (judgedFrom s).line.current)
      (by rw [hconfig]; exact hc.failHalt.1) (by rw [hconfig]; exact hc.recoverCycles.1)
      (by rw [hconfig, hjudged]; exact hn.clean)
    rw [hconfig] at hbounds
    exact
      { failed := by rw [hsettings.1, hline]; exact hbounds.1
        clean := by rw [hsettings.1, hline]; exact hbounds.2
        setup := fun h => by rcases hstate law with h' | h' | h' <;> simp [h'] at h
        attempts := by rw [hsettings.1, hidentity]; exact hn.attempts
        timer := fun hr => by rw [hgate] at hr; cases hr }

/-- RESOLVE_INDEX with outcome COMPLETE, taken in SETUP with room in the queue (R52, R53). -/
theorem keeps_resolveComplete (hs : s.line.state = .setup) (hroom : s.exitHasRoom = true) :
    Keeps s s.resolveComplete := by
  have hrest := accounted_mapShift (s := s)
  have hsettings := resolveComplete_settings s
  have haccount (law : GateLaw s) (hc : ConfigLaw s) (ha : Account s) :
      Account s.resolveComplete := by
    have hi := indexing_of_state law (by simp [hs]) (by simp [hs])
    have haccounted := (ha.mapShift hc.stationCount hi hroom).ungaugedAccounting s.gaugedPallet
    exact haccounted.congr rfl rfl id
  unfold State.resolveComplete at haccount hsettings ⊢
  dsimp only at haccount hsettings ⊢
  generalize s.mapShift.ungaugedAccounting s.gaugedPallet = x at hrest haccount hsettings ⊢
  refine Still.keepsOf ?_ hsettings haccount
  rw [hrest, line_addFaultIf]
  exact { frozen := nofun }

/-- RESOLVE_INDEX with outcome NOT_MOVED (R54). -/
theorem keeps_resolveNotMoved : Keeps s s.resolveNotMoved := Still.keeps { frozen := nofun }

/-! ### The tick -/

theorem running_tick (marks : List Nat) (x : MarkTimer) : (x.tick marks).running = x.running := by
  unfold MarkTimer.tick
  split
  · rfl
  · split <;> rfl

/-- A tick leaves a stopped timer, and makes a boundary due only of a running one (log 3). -/
theorem due_tick (marks : List Nat) (x : MarkTimer) (h : (x.tick marks).due = true) :
    x.due = true ∨ x.running = true := by
  unfold MarkTimer.tick at h
  cases hr : x.running with
  | true => exact .inr rfl
  | false => exact .inl (by simpa [hr] using h)

/-- A running timer does not count to a mark at a tick: it falls due there (log 3). -/
theorem count_tick_lt (marks : List Nat) (x : MarkTimer) {mark : Nat} (hmark : mark ∈ marks)
    (hlt : x.count < mark) : (x.tick marks).count < mark := by
  unfold MarkTimer.tick
  split
  · exact hlt
  · split
    case isTrue => exact hlt
    case isFalse hnot =>
      have hne : x.count + 1 ≠ mark := fun h => hnot (by simpa [h] using hmark)
      exact Nat.lt_of_le_of_ne hlt hne

theorem tickStation_enable (k : StationNo) (st : Station) :
    (s.tickStation k st).enable = st.enable := by
  unfold State.tickStation
  dsimp only
  split
  · rfl
  · split <;> rfl

theorem tickStation_engagement (k : StationNo) (st : Station) :
    (s.tickStation k st).engagement = st.engagement := by
  unfold State.tickStation
  dsimp only
  split
  · rfl
  · split <;> rfl

/-- A tick boundary of every counter (R39, R64, R79, R121, R164). -/
theorem keeps_advance : Keeps s s.advance := by
  have hstation (k : StationNo) : s.advance.station k = s.tickStation k (s.station k) := by
    rw [State.advance, State.station, Vector.getElem_ofFn]
  exact Still.keeps
    { indexTimer := running_tick _ _
      due := due_tick _ _
      alignTimer := running_tick _ _
      enable := fun k => by rw [hstation, tickStation_enable]
      count := fun _ h => count_tick_lt _ _ (by simp) h
      engagement := fun k hk => by rw [hstation, tickStation_engagement, hk]
      frozen := id, remaining := Nat.le_refl _
      start := fun r k c hr hc => ⟨r, hr, hc⟩ }

end Sys2Proof.Machine.Keeping
end

section
/-! SUPPORT. Gate commands, tags, gauge results and configuration writes keep every law (R14 to R22, R74, R112 to R117, R134 to R136, R180 to R183). -/

namespace Sys2Proof.Machine.Keeping

open Settings Accounts Tripping Completing

variable {s t u : State}

/-! ### Records, entries and the queue -/

/-- The tracking unit and the flags changed, the account kept. -/
theorem keeps_of_frame (h : t = { s with tracking := t.tracking, flagUnit := t.flagUnit })
    (haccount : GateLaw s → ConfigLaw s → Account s → Account t) : Keeps s t := by
  refine Still.keepsOf ?_ ?_ haccount
  · rw [h]; exact {}
  · rw [h]; exact ⟨rfl, rfl⟩

theorem keeps_claimBlock (k : StationNo) (b : Block) : Keeps s (s.claimBlock k b) := by
  refine keeps_of_frame ?_ fun _ _ ha => ha.claimBlock k b
  unfold State.claimBlock
  split <;> rfl

theorem keeps_quarantineClaim (p : PalletNo) : Keeps s (s.quarantineClaim p) :=
  keeps_of_frame (by rw [(accounted_quarantineClaim p).rest]) fun _ _ ha => ha.quarantineClaim p

/-- A VALID gauge result taken (R134 to R136). -/
theorem keeps_applyGaugeResult (p : PalletNo) : Keeps s (s.applyGaugeResult p) := by
  refine keeps_of_frame ?_ fun _ _ ha => ha.applyGaugeResult p
  have hclaim (x : State) (c : Prop) [Decidable c] :
      (if c then x.quarantineClaim p else x) =
        { x with
          tracking := (if c then x.quarantineClaim p else x).tracking
          flagUnit := (if c then x.quarantineClaim p else x).flagUnit } := by
    split
    · rw [(accounted_quarantineClaim p).rest]
    · rfl
  have hraise (x : State) (c : Bool) :
      x.raiseIf c .stepLimited = { x with flagUnit := (x.raiseIf c .stepLimited).flagUnit } := by
    unfold State.raiseIf
    split <;> rfl
  unfold State.applyGaugeResult
  dsimp only
  rw [hclaim, hraise]
  rfl

theorem keeps_correctEntry (k : StationNo) (p : PalletNo) (arrives : Bool) (hk : s.inLine k = true)
    (hidle : s.indexing = false) (hout : (s.pallet p).service = .out) :
    Keeps s (s.correctEntry k p arrives) := by
  refine keeps_of_frame ?_ fun _ _ ha => ha.correctEntry k p arrives hk hidle hout
  rw [(correctEntry_frame (s := s) k p arrives).1]

/-! ### Gate commands -/

theorem lt_of_lineVariant {v : Fin 8} {w : Fin 6} (h : s.lineVariant v = some w) :
    w.val < s.config.params.variantCount.val := by
  unfold State.lineVariant at h
  split at h
  case isTrue hlt => exact Option.some.inj h ▸ hlt
  case isFalse => cases h

/-- What the checks of every pallet command leave (R14). -/
theorem of_palletChecks {c : GateCommand} {taken : Bool} {own : List (Bool × Cause)}
    (h : firstFailure (s.palletChecks c taken own) = none) :
    s.indexing = false ∧ taken = true ∧ ∀ x ∈ own, x.1 = true := by
  have hall := (firstFailure_eq_none _).mp h
  simp only [State.palletChecks, List.forall_mem_cons] at hall
  obtain ⟨hi, -, -, htaken, hown⟩ := hall
  exact ⟨by simpa using hi, htaken, hown⟩

theorem insertPallet_frame (p : PalletNo) (w : Fin 6) (d : Destination) :
    s.insertPallet p w d =
      { s with
        tracking := (s.insertPallet p w d).tracking
        flagUnit := (s.insertPallet p w d).flagUnit } := by
  cases d with
  | queue => rfl
  | station k => cases h : s.lineStation k <;> simp only [State.insertPallet, h] <;> rfl

theorem removePallet_frame (p : PalletNo) :
    s.removePallet p =
      { s with
        tracking := (s.removePallet p).tracking, flagUnit := (s.removePallet p).flagUnit } := by
  cases h : s.location p <;> simp only [State.removePallet, h] <;> rfl

theorem quarantinePallet_frame (p : PalletNo) :
    s.quarantinePallet p =
      { s with
        tracking := (s.quarantinePallet p).tracking
        flagUnit := (s.quarantinePallet p).flagUnit } := by
  cases h : s.queued p <;> simp only [State.quarantinePallet, h] <;> rfl

theorem keeps_insert (p : PalletNo) (v : Fin 8) (d : Destination)
    (h : firstFailure (s.commandChecks (.insert p v d)) = none) :
    Keeps s (State.commandEffect (.insert p v d) s) := by
  obtain ⟨hidle, harguments, hown⟩ := of_palletChecks h
  simp only [List.forall_mem_cons, decide_eq_true_eq] at hown
  obtain ⟨hout, hfree, -⟩ := hown
  show Keeps s (s.withSome (s.lineVariant v) _)
  cases hv : s.lineVariant v with
  | none => exact .refl s
  | some w =>
    exact keeps_of_frame (insertPallet_frame p w d) fun _ _ ha =>
      ha.insertPallet p w d (lt_of_lineVariant hv) hidle hout hfree

theorem keeps_remove (p : PalletNo) (h : firstFailure (s.commandChecks (.remove p)) = none) :
    Keeps s (State.commandEffect (.remove p) s) := by
  obtain ⟨hidle, -, hown⟩ := of_palletChecks h
  exact keeps_of_frame (removePallet_frame p) fun _ _ ha =>
    ha.removePallet p hidle (hown (s.removable p, .location) (by simp))

theorem keeps_quarantine (p : PalletNo)
    (h : firstFailure (s.commandChecks (.quarantine p)) = none) :
    Keeps s (State.commandEffect (.quarantine p) s) := by
  obtain ⟨-, -, hown⟩ := of_palletChecks h
  have hin : (s.pallet p).service = .inService := by simpa using hown
  exact keeps_of_frame (quarantinePallet_frame p) fun _ _ ha => ha.quarantinePallet p hin

/-- RELEASE taken: a QUARANTINE pallet on the map is in service again (R20). -/
theorem keeps_release (p : PalletNo) (h : firstFailure (s.commandChecks (.release p)) = none) :
    Keeps s (State.commandEffect (.release p) s) := by
  obtain ⟨hidle, -, hown⟩ := of_palletChecks h
  have hquarantine : (s.pallet p).service = .quarantine := by
    have hown' := List.forall_mem_singleton.mp hown
    simp only [Bool.and_eq_true, decide_eq_true_eq] at hown'
    exact hown'.1
  refine keeps_of_frame (t := s.setService p .inService) rfl fun _ _ ha =>
    ha.setPallet p _ (by simp [hquarantine]) (fun _ => by simp) (ha.variants p) (ha.offsets p)
      fun hi => absurd (hidle.symm.trans hi) Bool.false_ne_true

theorem keeps_setVariant (p : PalletNo) (v : Fin 8) :
    Keeps s (State.commandEffect (.setVariant p v) s) := by
  show Keeps s (s.withSome (s.lineVariant v) _)
  cases hv : s.lineVariant v with
  | none => exact .refl s
  | some w =>
    exact keeps_of_frame (t := s.changeVariant p w) rfl fun _ _ ha =>
      ha.setPallet p _ Iff.rfl (ha.queueInService p) (lt_of_lineVariant hv) (ha.offsets p)
        fun _ h => h

theorem keeps_holdLine : Keeps s s.holdLine := by
  have hheld : Keeps s { s with monitor := { s.monitor with held := true } } := Still.keeps {}
  unfold State.holdLine State.stopUnits
  exact hheld.trans (keeps_mapStations _ (fun _ _ => rfl) fun _ _ h => h)

/-- A gate command taken with its checks passed keeps every law (R174). -/
theorem keeps_commandEffect (c : GateCommand) (h : firstFailure (s.commandChecks c) = none) :
    Keeps s (State.commandEffect c s) := by
  have hall := (firstFailure_eq_none _).mp h
  cases c with
  | openSetup =>
    simp only [State.commandChecks, State.lineIn] at hall
    exact keeps_enterSetup (by simpa using hall)
  | closeSetup =>
    simp only [State.commandChecks, State.lineIn, List.forall_mem_cons] at hall
    obtain ⟨hin, hfrozen, -⟩ := hall
    exact keeps_closeSetup (by simpa using hin) (by simpa using hfrozen)
  | beginAlign =>
    simp only [State.commandChecks, State.lineIn, List.forall_mem_cons] at hall
    exact keeps_beginAlignment (by simpa using hall.1)
  | stop => exact keeps_stopLine
  | trip => exact keeps_trip _
  | insert p v d => exact keeps_insert p v d h
  | remove p => exact keeps_remove p h
  | setVariant p v => exact keeps_setVariant p v
  | quarantine p => exact keeps_quarantine p h
  | release p => exact keeps_release p h
  | rejectBlock p =>
    exact keeps_of_frame (t := s.setBlock p .reject) rfl fun _ _ ha =>
      ha.setPallet_same p _ rfl rfl rfl
  | confirm k =>
    show Keeps s (s.withSome (s.lineStation k) _)
    cases hk : s.lineStation k with
    | none => exact .refl s
    | some j => exact keeps_setStatus j .confirmed (inLine_of_lineStation hk)
  | resolveIndex o =>
    simp only [State.commandChecks, State.lineIn, List.forall_mem_cons, Bool.and_eq_true] at hall
    obtain ⟨⟨hin, -⟩, -, hroom, -⟩ := hall
    refine .ite (fun ho => ?_) fun _ => keeps_resolveNotMoved
    exact keeps_resolveComplete (by simpa using hin) (by simpa [ho] using hroom)
  | hold => exact keeps_holdLine
  | resume => exact Still.keeps {}
  | releaseStation k =>
    show Keeps s (s.withSome (s.lineStation k) _)
    cases hk : s.lineStation k with
    | none => exact .refl s
    | some j => exact keeps_setStation j _ rfl fun _ => rfl

/-! ### Tags and gauge headers -/

theorem keeps_recordTag (r : ReaderNo) (k : StationNo) (quality : Quality) (read : Option PalletNo)
    (outcome : TagOutcome) : Keeps s (s.recordTag r k quality read outcome) := Still.keeps {}

theorem keeps_takeMatch (r : ReaderNo) (k : StationNo) (p : PalletNo) (hk : s.inLine k = true) :
    Keeps s (s.takeMatch r k p) := by
  unfold State.takeMatch
  exact ((keeps_recordTag ..).trans (keeps_setStatus k _ hk)).trans keeps_checkAligned

theorem keeps_takeUncertain (r : ReaderNo) (k : StationNo) (p : PalletNo)
    (hk : s.inLine k = true) : Keeps s (s.takeUncertain r k p) := by
  have hmarked : Keeps s ((s.recordTag r k .good (some p) .uncertain).setStatus k .uncertain) :=
    (keeps_recordTag ..).trans (keeps_setStatus k _ hk)
  unfold State.takeUncertain
  exact .ite (fun h => hmarked.trans (keeps_failAttempt fun _ => h)) fun _ => hmarked

theorem keeps_takeCorrection (r : ReaderNo) (k : StationNo) (p : PalletNo)
    (hk : s.inLine k = true) (hidle : s.indexing = false) (hout : (s.pallet p).service = .out) :
    Keeps s (s.takeCorrection r k p) := by
  have hcorrected : Keeps s
      ((s.recordTag r k .good (some p) .corrected).correctEntry k p (s.gaugeStation == some k)) :=
    (keeps_recordTag ..).trans (keeps_correctEntry k p _ hk hidle hout)
  unfold State.takeCorrection
  exact .ite (fun _ => hcorrected.trans (Keeps.trans (Still.keeps {}) keeps_checkAligned))
    fun _ => hcorrected

theorem keeps_takeConflict (r : ReaderNo) (k : StationNo) (p : PalletNo) :
    Keeps s (s.takeConflict r k p) := by
  unfold State.takeConflict
  exact (keeps_recordTag ..).trans (keeps_trip _)

/-- A good tag taken of a reader's station (R114 to R117). -/
theorem keeps_takeGood (r : ReaderNo) (k : StationNo) (p : PalletNo) (hk : s.inLine k = true)
    (hidle : s.indexing = false) : Keeps s (s.takeGood r k p) := by
  have hnoted : Keeps s ((s.addFault .tagMismatch).raise .tagMismatch) :=
    (keeps_addFault _).trans (keeps_raise _)
  unfold State.takeGood
  refine .ite (fun _ => keeps_takeMatch r k p hk) fun _ => .ite (fun _ => ?_) fun _ =>
    .ite (fun hout => ?_) fun _ => ?_
  · exact hnoted.trans (keeps_takeUncertain r k p hk)
  · exact hnoted.trans (keeps_takeCorrection r k p hk hidle hout)
  · exact hnoted.trans (keeps_takeConflict r k p)

/-- A tag taken with its line checks passed (R111, R112). -/
theorem keeps_takeTag (x : TagWord) (h : firstFailure s.tagChecks = none) :
    Keeps s (State.takeTag x s) := by
  have hidle : s.indexing = false := by
    have hall := (firstFailure_eq_none _).mp h
    simpa using hall (!s.indexing, .indexInFlight) (by simp [State.tagChecks])
  unfold State.takeTag
  split
  case h_1 k hk =>
    have hline : s.inLine k = true :=
      (List.mem_filter.mp (List.mem_of_find?_eq_some hk)).2
    exact .ite (fun _ => keeps_takeGood _ k _ hline hidle) fun _ => keeps_recordTag ..
  case h_2 => exact .refl s

/-! ### Writes of the configuration and of the rules -/

/-- A descriptor, a variant entry or a rule taken: the line parameters stand (R146, R183). -/
theorem keeps_takeDescriptor (k : StationNo) (first : Nat) (size : Size) (data : Word)
    (h : s.descriptorTakes k first size data = true) :
    Keeps s (s.takeDescriptor k (s.formedDescriptor k first size data)) :=
  Still.keepsWith {} (fun law => takeDescriptor_configLaw first size data law k h)
    fun _ _ ha => ha.congr rfl rfl id

theorem keeps_takeVariant (v : Fin 6) (first : Nat) (size : Size) (data : Word)
    (h : s.variantTakes v first size data = true) :
    Keeps s (s.takeVariant v (s.formedVariant v first size data)) :=
  Still.keepsWith {} (fun law => takeVariant_configLaw first size data law v h)
    fun _ _ ha => ha.congr rfl rfl id

theorem keeps_takeRule (r : Fin 24) (first : Nat) (size : Size) (data : Word)
    (h : s.ruleTakes r first size data = true) :
    Keeps s (s.takeRule r (s.formedRule r first size data)) :=
  Still.keepsWith {} (fun law => takeRule_configLaw first size data law r h)
    fun _ _ ha => ha.congr rfl rfl id

/-- New line parameters taken in SETUP (R180 to R183). -/
theorem keeps_takeParams (first : Nat) (size : Size) (data : Word) (hs : s.line.state = .setup)
    (h : s.paramsTake first size data = true) :
    Keeps s (s.takeParams (s.formedParams first size data)) := by
  have hconfig (law : ConfigLaw s) := takeParams_configLaw first size data law h
  have hidle (law : GateLaw s) : s.indexing = false :=
    indexing_of_state law (by simp [hs]) (by simp [hs])
  have haccount (law : GateLaw s) (hc : ConfigLaw s) (ha : Account s) :=
    ha.takeParams hc (hidle law) h
  generalize s.formedParams first size data = p at hconfig haccount ⊢
  have hgate : (s.takeParams p).gate = s.gate := by simp [State.takeParams]
  have hline : (s.takeParams p).line = s.line := by simp [State.takeParams]
  have hidentity : (s.takeParams p).identity =
      { s.identity with remaining := min s.identity.remaining p.alignAttempts } := by
    simp [State.takeParams]
  have hparams : (s.takeParams p).config.params = p := by simp [State.takeParams]
  have hindexing : (s.takeParams p).indexing = s.indexing := by
    rw [State.indexing, hgate, State.indexing]
  refine
    { gate := fun law => ?_, config := hconfig, account := haccount
      count := fun law hc hn => ?_
      engagement := fun law _ => engagementLaw_of_idle (hindexing.trans (hidle law)) }
  · have henables (k : StationNo) : ((s.takeParams p).station k).enable =
        (s.takeParams p).enablePermitted k := by
      rw [State.enablePermitted, hline, hs]
      unfold State.takeParams
      rw [State.station_refreshEnables]
      simp [State.enablePermitted, hs, LineState.permitsEnables]
    exact
      { permit := by rw [hgate, hindexing]; exact law.permit
        timer := by rw [hgate, hindexing]; exact law.timer
        timerDue := by rw [hgate]; exact law.timerDue
        motion := by rw [hgate, hindexing]; exact law.motion
        inFlight := by rw [hindexing, hline]; exact law.inFlight
        stopping := by rw [hindexing, hline]; exact law.stopping
        frozen := by rw [hgate, hline]; exact law.frozen
        enables := henables
        alignTimer := by rw [hidentity, hline]; exact law.alignTimer }
  · obtain ⟨hfailed, hclean⟩ := hn.setup hs
    have hc' := hconfig hc
    exact
      { failed := by rw [hline, hfailed]; exact Nat.zero_le _
        clean := by rw [hline, hclean]; exact hc'.recoverCycles.1
        setup := by rw [hline]; exact hn.setup
        attempts := by rw [hidentity, hparams]; exact Nat.min_le_right _ _
        timer := fun hr => by
          rw [hgate, law.timer, hidle law] at hr
          cases hr }

end Sys2Proof.Machine.Keeping
end

section
/-! SUPPORT. Transactions keep every law: their arrival, their forwarding and their answers (R157 to R169). -/

namespace Sys2Proof.Machine.Keeping

open Settings Accounts Tripping Completing

variable {s t u : State}

/-! ### Arrival -/

/-- A START goes out only while no index is in flight (R59). -/
def StartsIdle (s : State) (d : Decision) : Prop :=
  ∀ k casting target sent, d = .forward (.cycleStart k casting) target sent → s.indexing = false

theorem startsIdle_refuse (cause : Cause) (place : Place) : StartsIdle s (.refuse cause place) :=
  nofun

theorem startsIdle_forward (x : Treatment) (target : Offset) (sent : Word)
    (hx : ∀ k casting, x ≠ .cycleStart k casting) : StartsIdle s (.forward x target sent) := by
  rintro k casting _ _ h
  cases h
  exact absurd rfl (hx k casting)

theorem startsIdle_after (checks : List (Bool × Cause)) (place : Cause → Place) (next : Decision)
    (h : firstFailure checks = none → StartsIdle s next) :
    StartsIdle s (.after checks place next) := by
  unfold Decision.after
  split
  case h_1 => exact startsIdle_refuse _ _
  case h_2 hpass => exact h hpass

theorem startsIdle_ite {c : Prop} [Decidable c] {d e : Decision} (hd : StartsIdle s d)
    (he : StartsIdle s e) : StartsIdle s (if c then d else e) := by
  split
  · exact hd
  · exact he

variable (q : Request)

theorem startsIdle_pass : StartsIdle s (q.forwardAs .pass) := startsIdle_forward _ _ _ nofun

theorem startsIdle_snoop : StartsIdle s (q.forwardAs .snoop) := startsIdle_forward _ _ _ nofun

theorem startsIdle_overlay : StartsIdle s (q.forwardAs .overlay) := startsIdle_forward _ _ _ nofun

/-- The checks of a START leave no index in flight (R59). -/
theorem startsIdle_decideCycleStart (k : StationNo) : StartsIdle s (s.decideCycleStart q k) := by
  refine startsIdle_ite (startsIdle_refuse _ _) ?_
  split
  · exact startsIdle_refuse _ _
  · refine startsIdle_ite (startsIdle_refuse _ _) (startsIdle_ite ?_ ?_)
    · refine startsIdle_after _ _ _ fun hpass _ _ _ _ _ => ?_
      have hall := (firstFailure_eq_none _).mp hpass
      simpa using hall (!s.indexing, .indexInFlight) (by simp [State.startChecks])
    · exact startsIdle_after _ _ _ fun _ => startsIdle_pass q

theorem startsIdle_decideCommandWord (k : StationNo) :
    StartsIdle s (s.decideCommandWord q k) := by
  unfold State.decideCommandWord
  split
  · refine startsIdle_after _ _ _ fun _ => ?_
    split
    · exact startsIdle_ite (startsIdle_refuse _ _) (startsIdle_forward _ _ _ nofun)
    · exact startsIdle_refuse _ _
  · exact startsIdle_after _ _ _ fun _ => startsIdle_pass q

theorem startsIdle_decideRedirect (k : StationNo) : StartsIdle s (s.decideRedirect q k) := by
  unfold State.decideRedirect
  split
  · exact startsIdle_refuse _ _
  · exact startsIdle_ite (startsIdle_refuse _ _) (startsIdle_forward _ _ _ nofun)

theorem startsIdle_decideRoving : StartsIdle s (s.decideRoving q) := by
  unfold State.decideRoving
  split
  · exact startsIdle_decideRedirect q _
  · exact startsIdle_refuse _ _

theorem startsIdle_decideGateWrite (w : GateWord) : StartsIdle s (s.decideGateWrite q w) := by
  cases w with
  | gateCommand =>
    refine startsIdle_ite (startsIdle_refuse _ _) ?_
    split
    · exact startsIdle_refuse _ _
    · exact startsIdle_after _ _ _ fun _ => startsIdle_snoop q
  | transfer =>
    refine startsIdle_ite (startsIdle_refuse _ _) ?_
    split
    · exact startsIdle_refuse _ _
    · exact startsIdle_after _ _ _ fun _ => startsIdle_snoop q
    · exact startsIdle_ite (startsIdle_refuse _ _) (startsIdle_pass q)
  | tag =>
    exact startsIdle_ite (startsIdle_refuse _ _)
      (startsIdle_after _ _ _ fun _ => startsIdle_snoop q)
  | gaugeHeader =>
    exact startsIdle_ite (startsIdle_refuse _ _)
      (startsIdle_ite (startsIdle_after _ _ _ fun _ => startsIdle_snoop q) (startsIdle_refuse _ _))
  | gaugeData axis => exact startsIdle_ite (startsIdle_refuse _ _) (startsIdle_snoop q)
  | captureClear | selector | flagWord | flagEnable | dropRecord => exact startsIdle_snoop q
  | other => exact startsIdle_pass q
  | _ => exact startsIdle_refuse _ _

theorem startsIdle_decideConfig (takes : Bool) (place : Place) :
    StartsIdle s (s.decideConfig q takes place) :=
  startsIdle_after _ _ _ fun _ => startsIdle_snoop q

theorem startsIdle_decideWrite : StartsIdle s (s.decideWrite q) := by
  unfold State.decideWrite
  dsimp only
  cases windowOf q.offset with
  | gate w => exact startsIdle_decideGateWrite q w
  | params | descriptor k | variant v | rule r => exact startsIdle_decideConfig q _ _
  | palletView | mapView | captureView => exact startsIdle_refuse _ _
  | command k =>
    exact startsIdle_ite
      (startsIdle_ite (startsIdle_decideCycleStart q k) (startsIdle_decideCommandWord q k))
      (startsIdle_refuse _ _)
  | stationView k => exact startsIdle_ite (startsIdle_decideRedirect q k) (startsIdle_refuse _ _)
  | rovingView => exact startsIdle_decideRoving q
  | passed => exact startsIdle_pass q

theorem startsIdle_decideGateRead (w : GateWord) : StartsIdle s (decideGateRead q w) := by
  unfold decideGateRead
  split <;> exact startsIdle_forward _ _ _ nofun

theorem startsIdle_decideRead : StartsIdle s (s.decideRead q) := by
  unfold State.decideRead
  cases windowOf q.offset with
  | gate w => exact startsIdle_decideGateRead q w
  | command k => exact startsIdle_ite (startsIdle_pass q) (startsIdle_refuse _ _)
  | stationView k => exact startsIdle_ite (startsIdle_decideRedirect q k) (startsIdle_refuse _ _)
  | rovingView => exact startsIdle_decideRoving q
  | passed => exact startsIdle_pass q
  | _ => exact startsIdle_overlay q

/-- Whatever the classifier decides, a START goes out only while no index is in flight (R59). -/
theorem startsIdle_decide : StartsIdle s (s.decide q) := by
  refine startsIdle_ite (startsIdle_refuse _ _) ?_
  split
  · exact startsIdle_decideWrite q
  · exact startsIdle_decideRead q

/-- The transaction stands ARRIVED; a START, with no index in flight (R59, R159). -/
theorem keeps_holdRecord (r : Transaction)
    (h : ∀ k casting, r.treatment = .cycleStart k casting → s.indexing = false) :
    Keeps s (s.holdRecord r) where
  gate := Same.gateLaw {}
  config law := configLaw_congr law ⟨rfl, rfl⟩
  account _ _ ha := ha.congr rfl rfl id
  count _ _ hn := { hn with }
  engagement _ he :=
    { free := he.free
      noStart := fun r' k casting hr ht => by
        cases hr
        exact h k casting ht }

theorem keeps_answer (reply : Reply) : Keeps s (s.answer reply) := by
  have hnone : (s.answer reply).classifier.record = none := rfl
  exact Still.keeps { start := fun _ _ _ hr _ => absurd (hnone.symm.trans hr) nofun }

theorem keeps_recordRefusal (r : RefusalReport) : Keeps s (s.recordRefusal r) := by
  have hmarked : Keeps s ((s.raiseIf (s.hasFlag .refused) .reportOverrun).raise .refused) :=
    (keeps_raiseIf _ _).trans (keeps_raise _)
  exact hmarked.trans (Still.keeps {})

theorem keeps_refuse (kind : Kind) (outside : Bool) (o : Offset) (cause : Cause) (place : Place) :
    Keeps s (s.refuse kind outside o cause place) :=
  (keeps_recordRefusal _).trans (keeps_answer _)

theorem keeps_refuseArrival (kind : Kind) (o : Offset) (cause : Cause) (place : Place) :
    Keeps s (s.refuseArrival kind o cause place) := by
  have hnoted : Keeps s
      (if cause = .patchOverflow then (s.addFault .patchOverflow).raise .patchOverflow else s) :=
    .ite (fun _ => (keeps_addFault _).trans (keeps_raise _)) fun _ => .refl s
  exact hnoted.trans (keeps_refuse _ _ _ _ _)

theorem keeps_imageError (kind : Kind) (outside : Bool) (o : Offset) :
    Keeps s (s.imageError kind outside o) :=
  (keeps_raise _).trans (keeps_refuse _ _ _ _ _)

/-- A transaction arrives inside the line image (R159). -/
theorem keeps_arrive : Keeps s (s.arrive q) := by
  unfold State.arrive
  split
  case h_1 => exact keeps_refuseArrival _ _ _ _
  case h_2 hd =>
    refine .ite (fun _ => keeps_imageError _ _ _) fun _ => keeps_holdRecord _ fun k casting ht => ?_
    dsimp only [State.arrivedRecord] at ht
    rw [ht] at hd
    exact startsIdle_decide q k casting _ _ hd

/-- A transaction arrives outside the line image (R157). -/
theorem keeps_arriveOutside (kind : Kind) (a : Address) (size : Size) (data : Word) :
    Keeps s (s.arriveOutside kind a size data) :=
  .ite (fun _ => keeps_imageError _ _ _) fun _ => keeps_holdRecord _ nofun

/-! ### Forwarding -/

/-- A START forwarded finds no index in flight (R44, R61). -/
theorem keeps_forwardStart {r : Transaction} {k : StationNo} {casting : Bool}
    (hr : s.classifier.record = some r) (ht : r.treatment = .cycleStart k casting) (c : Classifier) :
    Keeps s { s.engage k casting with classifier := c } := by
  have hsame : Same s { s.engage k casting with classifier := c } :=
    { enable := fun j => by
        show ((s.setStation k _).station j).enable = _
        rw [State.station_setStation]
        split
        case isTrue h => rw [← h]
        case isFalse => rfl }
  exact
    { gate := hsame.gateLaw
      config := fun law => configLaw_congr law ⟨rfl, rfl⟩
      account := fun _ _ ha => ha.congr rfl rfl id
      count := fun _ _ hn => { hn with }
      engagement := fun _ he => engagementLaw_of_idle (he.noStart r k casting hr ht) }

/-- The forward-time effects of a transaction that is no START (R162). -/
theorem keeps_forwardEffect (r : Transaction) (h : ∀ k casting, r.treatment ≠ .cycleStart k casting) :
    Keeps s (r.forwardEffect s) ∧ (r.forwardEffect s).classifier = s.classifier := by
  unfold Transaction.forwardEffect
  split
  case h_1 k casting ht => exact absurd ht (h k casting)
  case h_2 => exact ⟨(keeps_addFault _).trans (keeps_raise _), rfl⟩
  all_goals exact ⟨.refl s, rfl⟩

/-- An arrived transaction goes out, with its forward-time effects (R162). -/
theorem keeps_forward : Keeps s s.forward := by
  unfold State.forward
  split
  case h_2 => exact .refl s
  case h_1 r hr =>
    refine .ite (fun _ => ?_) fun _ => .refl s
    dsimp only
    by_cases hstart : ∃ k casting, r.treatment = .cycleStart k casting
    · obtain ⟨k, casting, ht⟩ := hstart
      have hsent : r.forwardEffect s = s.engage k casting := by
        simp only [Transaction.forwardEffect, ht]
      rw [hsent]
      exact keeps_forwardStart hr ht _
    · obtain ⟨hkeeps, hclassifier⟩ := keeps_forwardEffect (s := s) r
        fun k casting ht => hstart ⟨k, casting, ht⟩
      generalize r.forwardEffect s = x at hkeeps hclassifier ⊢
      exact hkeeps.trans (Still.keeps
        { start := fun r' k c hr' ht => ⟨r, by rw [hclassifier, hr], by cases hr'; exact ht⟩ })

/-! ### Answers -/

/-- The engagement of a START that the memory did not take is withdrawn (R62). -/
theorem keeps_undoForward (r : Transaction) : Keeps s (r.undoForward s) := by
  unfold Transaction.undoForward
  split
  · exact .ite (fun _ => keeps_setStation _ _ rfl fun _ => rfl) fun _ => .refl s
  all_goals exact .refl s

theorem keeps_respondError (r : Transaction) : Keeps s (s.respondError r) :=
  (keeps_undoForward r).trans (keeps_imageError _ _ _)

theorem keeps_discardStale : Keeps s s.discardStale := Still.keeps {}

theorem keeps_stale (b : Bool) :
    Keeps s { s with classifier := { s.classifier with stale := b } } := Still.keeps {}

theorem keeps_timeOut : Keeps s s.timeOut := by
  unfold State.timeOut
  split
  case h_2 => exact .refl s
  case h_1 r _ =>
    refine .ite (fun _ => ?_) fun _ => .refl s
    exact (((keeps_raise _).trans (keeps_undoForward r)).trans (keeps_imageError _ _ _)).trans
      (keeps_stale true)

theorem keeps_abandonTransaction : Keeps s s.abandonTransaction := by
  unfold State.abandonTransaction
  split
  case h_2 => exact .refl s
  case h_1 =>
    exact .ite (fun _ => (keeps_answer _).trans (keeps_stale true)) fun _ => keeps_answer _

theorem keeps_drop (o : Offset) (cause : Cause) : Keeps s (s.drop o cause) := Still.keeps {}

/-- A snooped write is dropped, or taken with its checks passed again (R167, R168). -/
theorem keeps_takeOrDrop (o : Offset) (checks : List (Bool × Cause)) (effect : State → State)
    (h : firstFailure checks = none → Keeps s (effect s)) :
    Keeps s (s.takeOrDrop o checks effect) := by
  unfold State.takeOrDrop
  split
  case h_1 => exact keeps_drop _ _
  case h_2 hpass => exact h hpass

/-- A configuration write is dropped, or taken in SETUP with its checks passed (R180). -/
theorem keeps_configAtOk (o : Offset) (takes : Bool) (effect : State → State)
    (h : s.line.state = .setup → takes = true → Keeps s (effect s)) :
    Keeps s (s.configAtOk o takes effect) := by
  refine keeps_takeOrDrop _ _ _ fun hpass => ?_
  have hall := (firstFailure_eq_none _).mp hpass
  simp only [List.forall_mem_cons, State.lineIn] at hall
  exact h (by simpa using hall.1) hall.2.1

theorem keeps_capture (c : Capture) :
    Keeps s { s with gate := { s.gate with capture := c } } := Still.keeps {}

theorem keeps_clearCaptures (written : Word) : Keeps s (s.clearCaptures written) := by
  have hcleared : Keeps s (s.mapStations fun k st =>
      if written.getLsbD k.val then { st with capture := st.capture.clearMarks } else st) := by
    refine keeps_mapStations _ (fun k st => ?_) fun k st h => ?_
    · split <;> rfl
    · split <;> exact h
  exact .ite (fun _ => hcleared.trans (keeps_capture _)) fun _ => hcleared

theorem keeps_transferAtOk (o : Offset) (hrecord : s.classifier.record = none) :
    Keeps s (s.transferAtOk o data) := by
  unfold State.transferAtOk
  split
  case h_1 =>
    split
    case h_1 => exact (keeps_drop _ _).trans (keeps_raise _)
    case h_2 hpass => exact keeps_acceptIndex hpass hrecord
  all_goals exact .refl s

/-- A snooped write of a word of the gate control block (R160, R167). -/
theorem keeps_gateWordAtOk (o : Offset) (size : Size) (data : Word) (w : GateWord)
    (hrecord : s.classifier.record = none) : Keeps s (s.gateWordAtOk o size data w) := by
  cases w with
  | gateCommand =>
    show Keeps s (s.gateAtOk o data)
    unfold State.gateAtOk
    split
    · exact keeps_takeOrDrop _ _ _ (keeps_commandEffect _)
    · exact .refl s
  | transfer => exact keeps_transferAtOk o hrecord
  | tag => exact keeps_takeOrDrop _ _ _ (keeps_takeTag _)
  | gaugeHeader =>
    exact keeps_takeOrDrop _ _ _ fun _ =>
      .ite (fun _ => keeps_applyGaugeResult _) fun _ => .refl s
  | gaugeData axis => exact Still.keeps {}
  | captureClear => exact keeps_clearCaptures _
  | selector => exact Still.keeps {}
  | flagWord => exact Still.keeps {}
  | flagEnable => exact Still.keeps {}
  | dropRecord => exact .ite (fun _ => Still.keeps {}) fun _ => .refl s
  | _ => exact .refl s

/-- A snooped write keeps every law, the port being empty (R167). -/
theorem keeps_snoopAtOk (o : Offset) (size : Size) (data : Word)
    (hrecord : s.classifier.record = none) : Keeps s (s.snoopAtOk o size data) := by
  unfold State.snoopAtOk
  split
  case h_1 w _ => exact keeps_gateWordAtOk o size data w hrecord
  case h_2 => exact keeps_configAtOk _ _ _ (keeps_takeParams _ _ _)
  case h_3 k _ => exact keeps_configAtOk _ _ _ fun _ => keeps_takeDescriptor k _ _ _
  case h_4 v _ => exact keeps_configAtOk _ _ _ fun _ => keeps_takeVariant v _ _ _
  case h_5 r _ => exact keeps_configAtOk _ _ _ fun _ => keeps_takeRule r _ _ _
  all_goals exact .refl s

/-- The memory's OK keeps every law (R163). -/
theorem keeps_respondOk (r : Transaction) (data : Word) : Keeps s (State.respondOk r data s) := by
  unfold State.respondOk
  split
  case h_1 => exact (keeps_answer _).trans (keeps_snoopAtOk _ _ _ rfl)
  all_goals exact keeps_answer _

end Sys2Proof.Machine.Keeping
end

section
/-! SUPPORT. Every command keeps every law: field inputs, marks, power-on reset, and the step (R41 to R44, R64 to R69, R79, R96, R97, R176). -/

namespace Sys2Proof.Machine.Keeping

open Settings Accounts Tripping Completing

variable {s t u : State}

/-! ### Station inputs -/

theorem keeps_claimCompletion (k : StationNo) (casting : Bool) :
    Keeps s (s.claimCompletion k casting) := by
  have hloaded : Keeps s (if k.val = 0 ∧ casting then s.claimBlock k .inWork else s) :=
    .ite (fun _ => keeps_claimBlock _ _) fun _ => .refl s
  exact .ite (fun _ => hloaded.trans (keeps_claimBlock _ _)) fun _ => hloaded

theorem keeps_completeStation (k : StationNo) (casting : Bool) :
    Keeps s (s.completeStation k casting) := by
  have hended : Keeps s
      (s.setStation k
        { (s.station k).endEngagement with
          capture := (s.station k).capture.take (s.station k).budget }) :=
    keeps_setStation k _ rfl fun _ => rfl
  exact (hended.trans (keeps_raiseIf _ _)).trans (keeps_claimCompletion _ _)

theorem keeps_clearRose (k : StationNo) : Keeps s (s.clearRose k) := by
  unfold State.clearRose
  split
  · exact .ite (fun _ => keeps_completeStation _ _) fun _ => .refl s
  · exact .refl s

theorem keeps_acknowledge (k : StationNo) : Keeps s (s.acknowledge k) := by
  unfold State.acknowledge
  split
  case h_1 hengaged => exact keeps_setStation k _ rfl fun h => absurd (hengaged.symm.trans h) nofun
  case h_2 => exact .refl s

theorem keeps_clearFell (k : StationNo) : Keeps s (s.clearFell k) := by
  have htripped : Keeps s (if s.indexing && s.inLine k then s.trip .clearLost else s) :=
    .ite (fun _ => keeps_trip _) fun _ => .refl s
  exact htripped.trans (keeps_acknowledge k)

/-- A station's clear input takes a new state (R43, R65, R67). -/
theorem keeps_updateClear (k : StationNo) (f : InputLine → InputLine) :
    Keeps s (s.updateClear k f) := by
  have hmoved : Keeps s (s.setStation k { s.station k with clear := f (s.station k).clear }) :=
    keeps_setStation k _ rfl id
  exact hmoved.trans
    (.ite (fun _ => .refl _) fun _ => .ite (fun _ => keeps_clearRose k) fun _ => keeps_clearFell k)

theorem keeps_updatePresence (k : StationNo) (f : InputLine → InputLine) :
    Keeps s (s.updatePresence k f) :=
  keeps_setStation k _ rfl id

theorem keeps_settleInput (k : StationNo) (input : FieldInput) : Keeps s (s.settleInput k input) := by
  cases input with
  | clear => exact keeps_updateClear k _
  | presence => exact keeps_updatePresence k _

/-! ### The marks of the budget units -/

theorem keeps_reachAck (k : StationNo) : Keeps s (s.reachAck k) := by
  unfold State.reachAck
  split
  case h_1 =>
    refine .ite (fun _ => .refl s) fun _ => ?_
    exact ((keeps_setStation k { (s.station k).endEngagement with noAck := true } rfl
      fun _ => rfl).trans (keeps_addFault _)).trans (keeps_raise _)
  case h_2 => exact .refl s

theorem keeps_reachWarn (k : StationNo) : Keeps s (s.reachWarn k) :=
  (keeps_setStation k { s.station k with warn := true } rfl id).trans (keeps_raise _)

theorem keeps_reachLimit (k : StationNo) : Keeps s (s.reachLimit k) :=
  ((keeps_setStation k { s.station k with limit := true } rfl id).trans (keeps_addFault _)).trans
    (keeps_raise _)

/-- A budget unit's boundary with the marks it reaches (R64 to R66). -/
theorem keeps_takeUnitBoundary (k : StationNo) : Keeps s (s.takeUnitBoundary k) := by
  have hcounted : Keeps s
      (s.setStation k { s.station k with budget := s.unitNext k, budgetDue := false }) :=
    keeps_setStation k _ rfl id
  have hwarned (x : State) (c : Prop) [Decidable c] : Keeps x (if c then x.reachWarn k else x) :=
    .ite (fun _ => keeps_reachWarn k) fun _ => .refl x
  have hlimited (x : State) (c : Prop) [Decidable c] : Keeps x (if c then x.reachLimit k else x) :=
    .ite (fun _ => keeps_reachLimit k) fun _ => .refl x
  have hacked (x : State) (c : Prop) [Decidable c] : Keeps x (if c then x.reachAck k else x) :=
    .ite (fun _ => keeps_reachAck k) fun _ => .refl x
  refine .ite (fun _ => ?_) fun _ => .refl s
  exact ((hcounted.trans (hwarned _ _)).trans (hlimited _ _)).trans (hacked _ _)

/-- What is still due is taken (log 3). -/
theorem keeps_takeDue : Keeps s s.takeDue := by
  have hfiltered (x : State) : Keeps x
      (allStations.foldl (fun s k => (s.settleInput k .clear).settleInput k .presence) x) :=
    Keeps.foldl _ _ (fun _ _ => (keeps_settleInput _ _).trans (keeps_settleInput _ _)) x
  have hunits (x : State) : Keeps x (allStations.foldl (fun s k => s.takeUnitBoundary k) x) :=
    Keeps.foldl _ _ (fun _ _ => keeps_takeUnitBoundary _) x
  exact (((keeps_timeOut.trans (hfiltered _)).trans keeps_takeIndexBoundary).trans (hunits _)).trans
    keeps_takeAlignBoundary

/-! ### Power-on reset -/

/-- A state right after power-on reset, whatever its straps, pins, queue, flags and input levels, keeps the laws (R176). -/
structure PoweredOn (t : State) : Prop where
  tracking : t.tracking = State.reset.tracking
  gate : t.gate = State.reset.gate
  line : t.line = State.reset.line
  identity : t.identity = State.reset.identity
  config : t.config = State.reset.config
  patch : t.patch = State.reset.patch
  enable : ∀ k, (t.station k).enable = false

theorem PoweredOn.gateLaw (h : PoweredOn t) : GateLaw t where
  permit := by rw [State.indexing, h.gate]; rfl
  timer := by rw [State.indexing, h.gate]; rfl
  timerDue hd := by rw [h.gate] at hd; cases hd
  motion hm := by rw [h.gate] at hm; cases hm
  inFlight hi := by rw [State.indexing, h.gate] at hi; cases hi
  stopping hs := by rw [h.line] at hs; cases hs
  frozen hf := by rw [h.gate] at hf; cases hf
  enables k := by rw [h.enable, State.enablePermitted, h.line]; simp [State.reset, LineState.permitsEnables]
  alignTimer := by rw [h.identity, h.line]; decide

theorem PoweredOn.configLaw (h : PoweredOn t) : ConfigLaw t :=
  configLaw_congr reset_configLaw ⟨h.config, h.patch⟩

theorem PoweredOn.indexing (h : PoweredOn t) : t.indexing = false := by
  rw [State.indexing, h.gate]; rfl

theorem PoweredOn.accountLaw (h : PoweredOn t) : Account t :=
  Account.powerOn h.tracking (by rw [h.config]; rfl) h.indexing

theorem PoweredOn.countLaw (h : PoweredOn t) : CountLaw t where
  failed := by rw [h.line, h.config]; decide
  clean := by rw [h.line, h.config]; decide
  setup _ := by rw [h.line]; decide
  attempts := by rw [h.identity, h.config]; decide
  timer hr := by rw [h.gate] at hr; cases hr

theorem PoweredOn.keeps (h : PoweredOn t) : Keeps s t where
  gate _ := h.gateLaw
  config _ := h.configLaw
  account _ _ _ := h.accountLaw
  count _ _ _ := h.countLaw
  engagement _ _ := engagementLaw_of_idle h.indexing

theorem keeps_powerOnReset (straps : BitVec 16) (hx : exec (.powerOnReset straps) s = .next t) :
    Keeps s t := by
  cases hx
  refine PoweredOn.keeps (t := State.raiseIf _ _ (State.raiseIf _ _ _)) ?_
  exact
    { tracking := by simp, gate := by simp, line := by simp, identity := by simp
      config := by simp, patch := by simp
      enable := fun k => by simp [State.station, Station.powerOn] }

/-! ### Every command -/

theorem keeps_ifPortFree {arrived : State} (h : Keeps s arrived)
    (hx : s.ifPortFree arrived = .next t) : Keeps s t := by
  unfold State.ifPortFree at hx
  split at hx
  · cases hx
  · cases hx
    exact h

theorem keeps_hostWriteAddress (a : Address) (size : Size) (data : Word)
    (hx : s.hostWriteAddress a size data = .next t) : Keeps s t := by
  unfold State.hostWriteAddress at hx
  split at hx
  · exact keeps_ifPortFree (keeps_arrive _) hx
  · exact keeps_ifPortFree (keeps_arriveOutside _ _ _ _) hx

theorem keeps_hostReadAddress (a : Address) (size : Size)
    (hx : s.hostReadAddress a size = .next t) : Keeps s t := by
  unfold State.hostReadAddress at hx
  split at hx
  · exact keeps_ifPortFree (keeps_arrive _) hx
  · exact keeps_ifPortFree (keeps_arriveOutside _ _ _ _) hx

theorem keeps_hostAccess (o : Offset) (access : Access) (hx : s.hostAccess o access = .next t) :
    Keeps s t := by
  cases access <;> exact keeps_ifPortFree (keeps_arrive _) hx

theorem keeps_pins (p : Pins) : Keeps s { s with pins := p } := Still.keeps {}

/-- The pins and the index gate at the at-rest edges (R41, R45). -/
theorem keeps_atRestFall (hx : exec .atRestFall s = .next t) : Keeps s t := by
  cases hx
  exact .ite (fun hi => (keeps_pins _).trans (keeps_motionSeen hi)) fun _ => keeps_pins _

theorem keeps_atRestRise (hx : exec .atRestRise s = .next t) : Keeps s t := by
  cases hx
  refine .ite (fun hi => ?_) fun _ => keeps_pins _
  exact (keeps_pins _).trans (keeps_completeIndex (Bool.and_eq_true_iff.mp hi).1)

theorem keeps_controllerReset (hx : exec .controllerResetAssert s = .next t) : Keeps s t := by
  cases hx
  have habandoned : Keeps s
      { s with pins := { s.pins with controllerReset := true } }.abandonTransaction :=
    (keeps_pins _).trans keeps_abandonTransaction
  exact .ite (fun _ => habandoned.trans (keeps_trip _)) fun _ => habandoned

/-- Every command that answers a next state keeps every law. -/
theorem keeps_exec (i : Instr) (hx : exec i s = .next t) : Keeps s t := by
  cases i with
  | imageResponseOk d =>
    obtain rfl | ⟨r, rfl⟩ := onResponse_cases _ hx
    · exact keeps_discardStale
    · exact keeps_respondOk r d
  | imageResponseError =>
    obtain rfl | ⟨r, rfl⟩ := onResponse_cases _ hx
    · exact keeps_discardStale
    · exact keeps_respondError r
  | powerOnReset straps => exact keeps_powerOnReset straps hx
  | stationViewAccess k o access => exact keeps_hostAccess _ access hx
  | rovingViewAccess o access => exact keeps_hostAccess _ access hx
  | hostWriteOther a size data => exact keeps_hostWriteAddress a size data hx
  | hostRead a size => exact keeps_hostReadAddress a size hx
  | transactionForward =>
    cases hx
    exact keeps_forward
  | imageResponseTimeout =>
    cases hx
    exact keeps_timeOut
  | staleResponseDiscard =>
    simp only [exec, execStaleResponseDiscard] at hx
    split at hx
    · cases hx
      exact keeps_discardStale
    · cases hx
  | atRestFall => exact keeps_atRestFall hx
  | atRestRise => exact keeps_atRestRise hx
  | driveFaultRise =>
    cases hx
    have hrisen : Keeps s ({ s with pins := { s.pins with driveFault := true } }.raise .driveFault) :=
      (keeps_pins _).trans (keeps_raise _)
    exact .ite (fun _ => hrisen.trans (keeps_trip _)) fun _ => hrisen
  | estopActive =>
    cases hx
    exact ((keeps_pins _).trans (keeps_raise _)).trans (keeps_trip _)
  | controllerResetAssert => exact keeps_controllerReset hx
  | driveFaultFall | estopInactive | controllerResetDeassert =>
    cases hx
    exact keeps_pins _
  | clearInputChange k level =>
    cases hx
    exact keeps_updateClear k _
  | presenceInputChange k level =>
    cases hx
    exact keeps_updatePresence k _
  | filterSettle k input =>
    cases hx
    exact keeps_settleInput k input
  | timeBaseTick => exact Host.Outcome.next.inj hx ▸ keeps_takeDue.trans keeps_advance
  | indexSlowMark | indexLimitMark =>
    cases hx
    exact .ite (fun _ => keeps_takeIndexBoundary) fun _ => .refl s
  | ackMark k | warnMark k | limitMark k =>
    cases hx
    exact .ite (fun _ => keeps_takeUnitBoundary k) fun _ => .refl s
  | alignWindowExpiry =>
    cases hx
    exact keeps_takeAlignBoundary
  | _ => exact keeps_ifPortFree (keeps_arrive _) hx

/-- Every step keeps every law: an idle one changes nothing. -/
theorem keeps_step (hx : step s = .next t) : Keeps s t := by
  unfold step at hx
  split at hx
  case h_1 =>
    cases hx
    exact .refl s
  case h_2 i rest _ =>
    have hqueue : Keeps s (s.withPending rest) := Still.keeps {}
    exact hqueue.trans (keeps_exec i hx)

/-! ### The obligations -/

/-- Settles O56: every step keeps every law. -/
theorem gateLawKept : Obligations.GateLawKept := fun _ _ law hx => (keeps_step hx).gate law

/-- Settles O58: the laws place by place are kept by every step. -/
theorem accountLawKept : Obligations.AccountLawKept := fun _ _ hg hc ha hx =>
  accountLaw_iff.mpr ((keeps_step hx).account hg hc (accountLaw_iff.mp ha))

/-- Settles O59: every step keeps every law. -/
theorem countLawKept : Obligations.CountLawKept := fun _ _ hg hc hn hx =>
  (keeps_step hx).count hg hc hn

/-- Settles O60: every step keeps every law. -/
theorem engagementLawKept : Obligations.EngagementLawKept := fun _ _ hg he hx =>
  (keeps_step hx).engagement hg he

/-- Settles O55: power-on reset on a quiet line. -/
theorem resetMeetsLaws : Obligations.ResetMeetsLaws := by
  have h : PoweredOn State.reset :=
    { tracking := rfl, gate := rfl, line := rfl, identity := rfl, config := rfl, patch := rfl
      enable := fun k => by simp [State.station, State.reset, Station.powerOn] }
  exact ⟨h.gateLaw, h.configLaw, accountLaw_iff.mpr h.accountLaw, h.countLaw,
    engagementLaw_of_idle h.indexing⟩

end Sys2Proof.Machine.Keeping
end

section
/-! SUPPORT. The pallet commands, each from its own checks and its effect (R14 to R22). -/

namespace Sys2Proof.Machine.PalletCommands

variable (s : State)

/-! ### The order of the checks -/

/-- The checks 1 to 3 of R14 pass. -/
def Allowed (c : GateCommand) : Prop :=
  s.gate.state ≠ .indexing ∧ s.gate.frozen = false ∧ s.line.state ∈ palletStates c

/-- A pallet command whose argument check and own checks pass takes its effect (R14, R174). -/
theorem completes_pallet (c : GateCommand) (d : Word) (hfree : s.portsFree) {taken : Bool}
    {own : List (Bool × Cause)} (hcc : s.commandChecks c = s.palletChecks c taken own)
    (h : Allowed s c) (hpass : firstFailure ((taken, .badArgument) :: own) = none) :
    Completes c.instr d s (State.commandEffect c (s.answered .ok)) := by
  obtain ⟨hidle, hfrozen, hstate⟩ := h
  refine completes_gate s c d hfree ?_
  rw [hcc, palletChecks_passed s c taken own hidle hfrozen hstate, hpass]

/-- A pallet command whose argument check or own checks fail is refused with the first cause (R14). -/
theorem refuses_pallet (c : GateCommand) (hrec : s.classifier.record = none) {taken : Bool}
    {own : List (Bool × Cause)} (hcc : s.commandChecks c = s.palletChecks c taken own)
    (h : Allowed s c) (cause : Cause)
    (hfail : firstFailure ((taken, .badArgument) :: own) = some cause)
    (hp : cause ≠ .patchOverflow := by decide) :
    exec c.instr s = .next (s.refusedWrite commandWord cause (s.commandPlace c cause)) := by
  obtain ⟨hidle, hfrozen, hstate⟩ := h
  refine refuses_gate s c cause hrec ?_ hp
  rw [hcc, palletChecks_passed s c taken own hidle hfrozen hstate, hfail]

/-- The checks 1 to 3 of R14, then what follows where they pass. -/
theorem palletOrder_gate (c : GateCommand) (hrec : s.classifier.record = none) {taken : Bool}
    {own : List (Bool × Cause)} (hcc : s.commandChecks c = s.palletChecks c taken own)
    (place : Place) (hplace : ∀ cause, s.commandPlace c cause = place) (next : Prop)
    (hnext : Allowed s c → next) : s.palletOrder c.instr (palletStates c) place next :=
  palletOrder_of s c.instr c (exec_instr s c) hrec taken own hcc place hplace next
    fun hidle hfrozen hstate => hnext ⟨hidle, hfrozen, hstate⟩

/-! ### The pallet commands -/

/-- Settles O13: the destination's own check, and the record and place INSERT leaves. -/
theorem insert : Obligations.Insert := by
  intro s p v d hfree record
  refine ⟨?_, fun k => ?_⟩
  · refine palletOrder_gate s (.insert p v .queue) hfree.1 rfl _ (fun _ => rfl) _ fun h => ?_
    split
    case isFalse hv =>
      exact refuses_pallet s (.insert p v .queue) hfree.1 rfl h .badArgument
        (by simp [firstFailure, State.insertArguments, lineVariant_eq_none s v hv])
    case isTrue hv =>
      have hvariant := lineVariant_eq_some s v hv
      split
      case isTrue hservice =>
        exact refuses_pallet s (.insert p v .queue) hfree.1 rfl h .palletState
          (by simp [firstFailure, State.insertArguments, hvariant, hservice])
      case isFalse hservice =>
        have hout : (s.pallet p).service = .out := by simpa using hservice
        split
        case isTrue hroom =>
          have heffect := completes_pallet s (.insert p v .queue) d hfree rfl h
            (by simp [firstFailure, State.insertArguments, hvariant, hout, State.destinationFree,
              hroom])
          have hvariant' : (s.answered .ok).lineVariant v = some ⟨v.val, by omega⟩ := hvariant
          simp only [State.commandEffect, hvariant', State.withSome] at heffect
          exact heffect
        case isFalse hfull =>
          exact refuses_pallet s (.insert p v .queue) hfree.1 rfl h .location
            (by simp [firstFailure, State.insertArguments, hvariant, hout, State.destinationFree,
              hfull])
  · refine palletOrder_gate s (.insert p v (.station k)) hfree.1 rfl _ (fun _ => rfl) _ fun h => ?_
    split
    case isFalse hnot =>
      have hargs : s.insertArguments v (.station k) = false := by
        by_cases hv : v.val < s.config.params.variantCount.val
        · simp [State.insertArguments, lineStation_eq_none s k fun hk => hnot ⟨hv, hk⟩]
        · simp [State.insertArguments, lineVariant_eq_none s v hv]
      exact refuses_pallet s (.insert p v (.station k)) hfree.1 rfl h .badArgument
        (by rw [hargs]; rfl)
    case isTrue hv =>
      have hvariant := lineVariant_eq_some s v hv.1
      have hstation := lineStation_eq_some s k hv.2
      split
      case isTrue hservice =>
        exact refuses_pallet s (.insert p v (.station k)) hfree.1 rfl h .palletState
          (by simp [firstFailure, State.insertArguments, hvariant, hstation, hservice])
      case isFalse hservice =>
        have hout : (s.pallet p).service = .out := by simpa using hservice
        intro j
        split
        case isTrue hroom =>
          have hempty : (s.entry j).occupied = false := by simp [MapEntry.occupied, hroom]
          have heffect := completes_pallet s (.insert p v (.station k)) d hfree rfl h
            (by simp [firstFailure, State.insertArguments, hvariant, hstation, hout,
              State.destinationFree, show (s.entry ⟨k.val, hv.2.2⟩).occupied = false from hempty])
          have hvariant' : (s.answered .ok).lineVariant v = some ⟨v.val, by omega⟩ := hvariant
          have hstation' : (s.answered .ok).lineStation k = some ⟨k.val, hv.2.2⟩ := hstation
          simp only [State.commandEffect, hvariant', State.withSome, State.insertPallet,
            hstation'] at heffect
          exact heffect
        case isFalse hfull =>
          have hoccupied : (s.entry ⟨k.val, hv.2.2⟩).occupied = true := by
            simpa [MapEntry.occupied, Option.isSome_iff_ne_none] using hfull
          exact refuses_pallet s (.insert p v (.station k)) hfree.1 rfl h .location
            (by simp [firstFailure, State.insertArguments, hvariant, hstation, hout,
              State.destinationFree, hoccupied])

/-! ### Where a pallet stands -/

/-- A pallet stands at the lowest station of the line whose entry holds it (R6). -/
theorem stationOf_eq_some (p : PalletNo) (k : StationNo)
    (h : Lowest k (fun j => s.inLine j = true ∧ (s.entry j).pallet = some p)) :
    s.stationOf p = some k := by
  rw [State.stationOf, State.lineStations, List.find?_filter]
  refine Tags.find?_allStations k _ ?_
  simpa only [decide_eq_true_eq, beq_iff_eq] using h

/-- A pallet that no entry of the line holds stands at no station (R6). -/
theorem stationOf_eq_none (p : PalletNo)
    (h : ∀ k, s.inLine k = true → (s.entry k).pallet ≠ some p) : s.stationOf p = none := by
  rw [State.stationOf, List.find?_eq_none]
  intro j hj
  simpa using h j (List.mem_filter.mp hj).2

/-- A pallet stands at a station exactly if an entry of the line holds it (R6). -/
theorem isSome_stationOf (p : PalletNo) :
    (s.stationOf p).isSome = true ↔ ∃ k, s.inLine k = true ∧ (s.entry k).pallet = some p := by
  refine ⟨fun h => ?_, fun ⟨k, hk, hp⟩ => ?_⟩
  · obtain ⟨k, hk⟩ := Option.isSome_iff_exists.mp h
    exact ⟨k, Accounts.stationOf_spec hk⟩
  · by_contra hnone
    have hnot := List.find?_eq_none.mp (Option.not_isSome_iff_eq_none.mp hnone) k
      (List.mem_filter.mpr ⟨List.mem_finRange k, hk⟩)
    simp [hp] at hnot

/-- A pallet at a station of the line is there (R6). -/
theorem location_of_station (p : PalletNo) (k : StationNo) (h : s.stationOf p = some k) :
    s.location p = .station k := by
  rw [State.location, h]

/-- A pallet that is at no station and waits in the return queue is there (R6). -/
theorem location_of_queued (p : PalletNo) (h : s.stationOf p = none) (hp : p ∈ s.tracking.queue) :
    ∃ i, s.location p = .queue i := by
  rw [State.location, h]
  cases hi : s.tracking.queue.findIdx? (· == p) with
  | some i => exact ⟨i, rfl⟩
  | none => simpa using List.findIdx?_eq_none_iff.mp hi p hp

/-- A pallet that is neither at a station nor in the return queue is nowhere (R6). -/
theorem location_of_neither (p : PalletNo) (h : s.stationOf p = none)
    (hp : p ∉ s.tracking.queue) : s.location p = .none := by
  have hi : s.tracking.queue.findIdx? (· == p) = none :=
    List.findIdx?_eq_none_iff.mpr fun q hq => by
      rw [beq_eq_false_iff_ne]
      exact fun he => hp (he ▸ hq)
  rw [State.location, h, hi]

/-- Settles O14: the place a pallet leaves, and SETUP alone for a station. -/
theorem remove : Obligations.Remove := by
  intro s p d hfree place gone
  refine palletOrder_gate s (.remove p) hfree.1 rfl _ (fun _ => rfl) _ fun h => ⟨?_, ?_⟩
  · intro k hk
    have hplace := location_of_station s p k (stationOf_eq_some s p k hk)
    split
    case isTrue hsetup =>
      have heffect := completes_pallet s (.remove p) d hfree rfl h
        (by simp [firstFailure, State.removable, hplace, hsetup])
      have hplace' : (s.answered .ok).location p = .station k := hplace
      simp only [State.commandEffect, State.removePallet, hplace'] at heffect
      exact heffect
    case isFalse hsetup =>
      exact refuses_pallet s (.remove p) hfree.1 rfl h .location
        (by simp [firstFailure, State.removable, hplace, hsetup])
  · intro hnone
    have hstation := stationOf_eq_none s p hnone
    split
    case isTrue hqueue =>
      obtain ⟨i, hplace⟩ := location_of_queued s p hstation hqueue
      have heffect := completes_pallet s (.remove p) d hfree rfl h
        (by simp [firstFailure, State.removable, hplace])
      have hplace' : (s.answered .ok).location p = .queue i := hplace
      simp only [State.commandEffect, State.removePallet, hplace'] at heffect
      exact heffect
    case isFalse hqueue =>
      exact refuses_pallet s (.remove p) hfree.1 rfl h .location
        (by simp [firstFailure, State.removable, location_of_neither s p hstation hqueue])

/-- Settles O15: the variant argument before the block state, and the block state alone for REJECT_BLOCK. -/
theorem setVariantAndRejectBlock : Obligations.SetVariantAndRejectBlock := by
  intro s p v d hfree place states
  constructor
  · refine palletOrder_gate s (.setVariant p v) hfree.1 rfl _ (fun _ => rfl) _ fun h => ?_
    split
    case isFalse hv =>
      exact refuses_pallet s (.setVariant p v) hfree.1 rfl h .badArgument
        (by simp [firstFailure, lineVariant_eq_none s v hv])
    case isTrue hv =>
      have hvariant := lineVariant_eq_some s v hv
      split
      case isTrue hblock =>
        have heffect := completes_pallet s (.setVariant p v) d hfree rfl h
          (by simp [firstFailure, hvariant, hblock])
        have hvariant' : (s.answered .ok).lineVariant v = some ⟨v.val, by omega⟩ := hvariant
        simp only [State.commandEffect, hvariant', State.withSome] at heffect
        exact heffect
      case isFalse hblock =>
        exact refuses_pallet s (.setVariant p v) hfree.1 rfl h .blockState
          (by simpa [firstFailure, hvariant] using hblock)
  · refine palletOrder_gate s (.rejectBlock p) hfree.1 rfl _ (fun _ => rfl) _ fun h => ?_
    split
    case isTrue hblock =>
      exact completes_pallet s (.rejectBlock p) d hfree rfl h (by simp [firstFailure, hblock])
    case isFalse hblock =>
      exact refuses_pallet s (.rejectBlock p) hfree.1 rfl h .blockState
        (by simp [firstFailure, hblock])

/-- Settles O16: a pallet in service leaves the queue or is quarantined where it stands, and one in quarantine on the map is released. -/
theorem quarantineAndRelease : Obligations.QuarantineAndRelease := by
  intro s p d hfree place states becomes
  constructor
  · refine palletOrder_gate s (.quarantine p) hfree.1 rfl _ (fun _ => rfl) _ fun h => ?_
    split
    case isTrue hservice =>
      exact refuses_pallet s (.quarantine p) hfree.1 rfl h .palletState
        (by simp [firstFailure, hservice])
    case isFalse hservice =>
      have heffect := completes_pallet s (.quarantine p) d hfree rfl h
        (by simpa [firstFailure] using hservice)
      split
      case isTrue hqueue =>
        have hqueued : (s.answered .ok).queued p = true := List.contains_iff_mem.mpr hqueue
        simp only [State.commandEffect, State.quarantinePallet, hqueued, if_true] at heffect
        exact heffect
      case isFalse hqueue =>
        have hqueued : (s.answered .ok).queued p = false :=
          Bool.eq_false_iff.mpr fun hq => hqueue (List.contains_iff_mem.mp hq)
        simp only [State.commandEffect, State.quarantinePallet, hqueued] at heffect
        exact heffect
  · refine palletOrder_gate s (.release p) hfree.1 rfl _ (fun _ => rfl) _ fun h => ?_
    simp only [← isSome_stationOf]
    split
    case isTrue hpass =>
      exact completes_pallet s (.release p) d hfree rfl h (by simp [firstFailure, hpass])
    case isFalse hfail =>
      exact refuses_pallet s (.release p) hfree.1 rfl h .palletState
        (by simpa [firstFailure] using hfail)

/-- Settles O17: the station argument, and CONFIRMED on its entry. -/
theorem confirm : Obligations.Confirm := by
  intro s k d hfree
  refine palletOrder_gate s (.confirm k) hfree.1 rfl _ (fun _ => rfl) _ fun h => ?_
  split
  case isTrue hk =>
    have hstation := lineStation_eq_some s k hk
    have heffect := completes_pallet s (.confirm k) d hfree rfl h
      (by simp [firstFailure, hstation])
    have hstation' : (s.answered .ok).lineStation k = some ⟨k.val, hk.2⟩ := hstation
    simp only [State.commandEffect, hstation', State.withSome] at heffect
    exact heffect
  case isFalse hk =>
    exact refuses_pallet s (.confirm k) hfree.1 rfl h .badArgument
      (by simp [firstFailure, lineStation_eq_none s k hk])

end Sys2Proof.Machine.PalletCommands
end

section
/-! SUPPORT. The commands on the line and the resolution of an index: the checks of each in order, and its effect (R87 to R92, R21, R22). -/

namespace Sys2Proof.Machine.LineCommands

variable (s : State)

/-- A gate command that fails its checks is refused with the first cause, at that cause's place (R174). -/
theorem refuses_at (c : GateCommand) (cause : Cause) (place : Place)
    (hrec : s.classifier.record = none) (hc : firstFailure (s.commandChecks c) = some cause)
    (hplace : s.commandPlace c cause = place) (hp : cause ≠ .patchOverflow := by decide) :
    exec c.instr s = .next (s.refusedWrite commandWord cause place) :=
  hplace ▸ refuses_gate s c cause hrec hc hp

/-! ### CLOSE_SETUP -/

/-- Where a position fails, the cross-checks fail at the lowest (R85). -/
theorem failingStation_of_lowest (k : StationNo) (h : Lowest k (fun j => s.positionFails j = true)) :
    s.failingStation = some k :=
  Tags.find?_allStations k _ h

/-- Where no position fails, the cross-checks name none (R85). -/
theorem failingStation_eq_none (h : ∀ k, s.positionFails k = false) : s.failingStation = none :=
  List.find?_eq_none.mpr fun k _ => by simp [h k]

/-- Settles O8: the line state, the frozen gate and the cross-checks in order, and the lowest failing position as the place. -/
theorem closeSetup : Obligations.CloseSetup := by
  intro s d hfree
  split
  case isTrue hstate =>
    exact refuses_at s .closeSetup .notInState _ hfree.1
      (by simp [firstFailure, State.commandChecks, State.lineIn, hstate]) rfl
  case isFalse hstate =>
    have hsetup : s.line.state = .setup := by simpa using hstate
    split
    case isTrue hfrozen =>
      exact refuses_at s .closeSetup .resolvePending _ hfree.1
        (by simp [firstFailure, State.commandChecks, State.lineIn, hsetup, hfrozen]) rfl
    case isFalse hfrozen =>
      split
      case isTrue hpass =>
        exact completes_gate s .closeSetup d hfree
          (by simp [firstFailure, State.commandChecks, State.lineIn, hsetup, hfrozen, hpass])
      case isFalse hfail =>
        have hcause : firstFailure (s.commandChecks .closeSetup) = some .badConfig := by
          simp [firstFailure, State.commandChecks, State.lineIn, hsetup, hfrozen, hfail]
        constructor
        · intro k hk
          refine refuses_at s .closeSetup .badConfig _ hfree.1 hcause ?_
          simp [State.commandPlace, failingStation_of_lowest s k hk]
        · intro hnone
          refine refuses_at s .closeSetup .badConfig _ hfree.1 hcause ?_
          simp [State.commandPlace, failingStation_eq_none s hnone, Place.none]

/-! ### BEGIN_ALIGN -/

/-- An alignment is needed exactly if a reader station holds a pallet (R89). -/
theorem needsAlignment_iff :
    s.needsAlignment = true ↔ ∃ k, s.isReaderStation k = true ∧ (s.entry k).pallet ≠ none := by
  simp [State.needsAlignment, allStations, MapEntry.occupied, Option.isSome_iff_ne_none]

/-- The state with which an alignment begins (R89). -/
def freshAlignment (s : State) : State :=
  { s with identity :=
    { s.identity with
      remaining := s.config.params.alignAttempts, corrected := false, aborted := false } }

/-- Without a pallet at a reader station, production begins (R89). -/
theorem beginAlignment_of_not_needed
    (h : ∀ k, s.isReaderStation k = true → (s.entry k).pallet = none) :
    s.beginAlignment = (freshAlignment s).enterProduction := by
  rw [State.beginAlignment, if_neg]
  · rfl
  · rw [needsAlignment_iff]
    rintro ⟨k, hk, hp⟩
    exact hp (h k hk)

/-- With a pallet at a reader station, the line aligns (R89). -/
theorem beginAlignment_of_needed
    (h : ∃ k, s.isReaderStation k = true ∧ (s.entry k).pallet ≠ none) :
    s.beginAlignment = ((freshAlignment s).enterLine .aligning).startAttempt := by
  rw [State.beginAlignment, if_pos ((needsAlignment_iff s).mpr h)]
  rfl

/-- Outside ALIGNING and PRODUCING, the way to PRODUCING through ALIGNING leaves what the direct one leaves (R80, R81). -/
theorem enterProduction_enterLine_aligning (haligning : s.line.state ≠ .aligning)
    (hproducing : s.line.state ≠ .producing) :
    (s.enterLine .aligning).enterProduction = s.enterProduction := by
  apply State.ext_parts
  case station =>
    intro k
    rw [State.enterProduction, State.enterProduction, State.station_enterLine,
      State.station_enterLine]
    have hstation : ({ s.enterLine .aligning with
        line := { (s.enterLine .aligning).line with failed := 0, clean := 0 } } : State).station k =
          _ := State.station_enterLine s .aligning k
    have hidle : ({ s.enterLine .aligning with
        line := { (s.enterLine .aligning).line with failed := 0, clean := 0 } } : State).indexing =
          s.indexing := by simp [State.indexing]
    have hin : ({ s.enterLine .aligning with
        line := { (s.enterLine .aligning).line with failed := 0, clean := 0 } } : State).inLine k =
          s.inLine k := by
      rw [State.inLine, State.inLine, State.stationCount, State.stationCount, State.enterLine_config]
    rw [hstation, hidle, hin]
    rfl
  case flagUnit =>
    simp [State.enterProduction, State.raiseIf, haligning, hproducing, State.raise, BitVec.or_assoc]
  all_goals simp [State.enterProduction, LineState.endsStop, State.entry, State.pallet]

/-- The success check reads nothing that an entry to a line state changes (R122). -/
theorem aligned_enterLine (l : LineState) : (s.enterLine l).aligned = s.aligned := by
  rw [Bool.eq_iff_iff, Tags.aligned_iff, Tags.aligned_iff]
  simp only [State.entry, State.enterLine_tracking,
    Tags.isReaderStation_congr s (State.enterLine_config s l)]

/-- An entry to ALIGNING with every pallet at a reader station CONFIRMED ends the alignment as it begins (R89, R121, R122). -/
theorem startAttempt_of_aligned (haligned : s.aligned = true)
    (hcorrected : s.identity.corrected = false) (haligning : s.line.state ≠ .aligning)
    (hproducing : s.line.state ≠ .producing) :
    (s.enterLine .aligning).startAttempt =
      { s with identity := { s.identity with timer := ⟨0, false, false⟩ } }.enterProduction := by
  have hstarted : (s.enterLine .aligning).startAttempt =
      ({ s with identity := { s.identity with timer := .restart } }.enterLine .aligning).checkAligned := by
    rw [State.startAttempt, State.enterLine_identity, Keeping.enterLine_withIdentity]
  have hproduction (x : Identity) := enterProduction_enterLine_aligning { s with identity := x }
    haligning hproducing
  have hended (t : MarkTimer) :
      ({ s with identity := { s.identity with timer := t } }.enterLine .aligning).endAlignment =
        { s with identity := { s.identity with timer := t.stop } }.enterLine .aligning := by
    rw [State.endAlignment, Keeping.enterLine_withIdentity, State.enterLine_identity]
  rw [hstarted, Tags.checkAligned_of_aligned _ ⟨by simp, by rw [aligned_enterLine]; exact haligned⟩,
    State.alignSuccess, hended, hproduction,
    State.enterLine_identity, hcorrected]
  rfl

/-- Settles O10: the two checks, and the three ways an alignment begins: not needed, open, or done at once. -/
theorem beginAlign : Obligations.BeginAlign := by
  intro s d hfree fresh producing
  split
  case isTrue hstate =>
    exact refuses_at s .beginAlign .notInState _ hfree.1
      (by simp [firstFailure, State.commandChecks, State.lineIn, hstate]) rfl
  case isFalse hstate =>
    have hstate' : s.lineIn [.prepared, .stopped] = true := by
      rw [Stations.lineIn_iff]
      simpa [Decidable.or_iff_not_imp_left] using hstate
    split
    case isTrue hestop =>
      exact refuses_at s .beginAlign .estopActive _ hfree.1
        (by simp [firstFailure, State.commandChecks, hstate', hestop]) rfl
    case isFalse hestop =>
      have heffect : Completes .beginAlign d s (s.answered .ok).beginAlignment :=
        completes_gate s .beginAlign d hfree
          (by simp [firstFailure, State.commandChecks, hstate', hestop])
      refine ⟨fun hnone => ?_, fun hopen => ?_, fun hneeded hdone => ?_⟩
      · rw [beginAlignment_of_not_needed (s.answered .ok) hnone] at heffect
        exact heffect
      · obtain ⟨k, hk, hp, hs⟩ := hopen
        rw [beginAlignment_of_needed (s.answered .ok) ⟨k, hk, hp⟩,
          Tags.startAttempt_of_not_aligned _ fun haligned => ?_] at heffect
        · rw [State.enterLine_identity] at heffect
          exact heffect
        · rw [aligned_enterLine, Tags.aligned_iff] at haligned
          exact hs (haligned k hk hp)
      · have haligned : (freshAlignment (s.answered .ok)).aligned = true :=
          (Tags.aligned_iff _).mpr hdone
        have hline (l : LineState) (hl : l ≠ .prepared ∧ l ≠ .stopped) : s.line.state ≠ l := by
          rintro rfl
          exact hstate hl
        rw [beginAlignment_of_needed (s.answered .ok) hneeded,
          startAttempt_of_aligned _ haligned rfl (hline _ (by decide)) (hline _ (by decide))]
          at heffect
        exact heffect

/-! ### STOP and TRIP -/

/-- Settles O11: what STOP and TRIP do in each line state. -/
theorem stopAndTrip : Obligations.StopAndTrip := by
  intro s d hfree
  have hstop (h : s.line.state ∈ [LineState.aligning, .producing, .restricted, .stopped]) :
      Completes .stop d s (s.answered .ok).stopLine :=
    Stations.completes_lineCommand s .stop _ d hfree rfl h
  have htrip (h : s.line.state ∈
      [LineState.prepared, .aligning, .producing, .restricted, .stopped, .tripped]) :
      Completes .trip d s ((s.answered .ok).trip .tripCommand) :=
    Stations.completes_lineCommand s .trip _ d hfree rfl h
  have hnostop (h : s.line.state ∉ [LineState.aligning, .producing, .restricted, .stopped]) :
      exec .stop s = .next (s.refusedWrite commandWord .notInState .none) :=
    Stations.refuses_lineCommand s .stop _ hfree rfl h rfl
  have hstate : (s.answered .ok).line.state = s.line.state := rfl
  have producing_or_restricted (taken : Completes .stop d s
      (if (s.answered .ok).indexing then
        { s.answered .ok with line := { s.line with stopPending := true } }
      else (s.answered .ok).enterLine .stopped)) :
      if s.gate.state = .indexing then
        Completes .stop d s { s.answered .ok with line := { s.line with stopPending := true } }
      else Completes .stop d s ((s.answered .ok).enterLine .stopped) := by
    by_cases h : s.gate.state = .indexing
    · rw [if_pos h]
      rwa [if_pos (by rw [State.indexing]; exact decide_eq_true h)] at taken
    · rw [if_neg h]
      rwa [if_neg (by rw [State.indexing]; exact fun hi => h (of_decide_eq_true hi))] at taken
  constructor
  · cases hl : s.line.state with
    | aligning =>
      have taken := hstop (by simp [hl])
      rw [State.stopLine, hstate, hl] at taken
      exact taken
    | producing =>
      have taken := hstop (by simp [hl])
      rw [State.stopLine, hstate, hl] at taken
      exact producing_or_restricted taken
    | restricted =>
      have taken := hstop (by simp [hl])
      rw [State.stopLine, hstate, hl] at taken
      exact producing_or_restricted taken
    | stopped =>
      have taken := hstop (by simp [hl])
      rw [State.stopLine, hstate, hl] at taken
      exact taken
    | setup => exact hnostop (by simp [hl])
    | prepared => exact hnostop (by simp [hl])
    | tripped => exact hnostop (by simp [hl])
  · cases hl : s.line.state with
    | setup => exact Stations.refuses_lineCommand s .trip _ hfree rfl (by simp [hl]) rfl
    | tripped =>
      have taken := htrip (by simp [hl])
      rw [State.trip_not_taken] at taken
      · exact taken
      · exact (Stations.lineIn_iff _ _).mpr (by rw [hstate, hl]; simp)
    | prepared => exact htrip (by simp [hl])
    | aligning => exact htrip (by simp [hl])
    | producing => exact htrip (by simp [hl])
    | restricted => exact htrip (by simp [hl])
    | stopped => exact htrip (by simp [hl])

/-! ### RESOLVE_INDEX -/

/-- Settles O18: the checks in order, and the release of the gate alone. -/
theorem resolveNotMoved : Obligations.ResolveNotMoved := by
  intro s o d hfree
  split
  case isTrue hstate =>
    refine refuses_at s (.resolveIndex o) .notInState _ hfree.1 ?_ rfl
    rcases hstate with h | h <;> simp [firstFailure, State.commandChecks, State.lineIn, h]
  case isFalse hstate =>
    obtain ⟨hsetup, hfrozen⟩ : s.line.state = .setup ∧ s.gate.frozen = true := by
      simpa [not_or] using hstate
    split
    case isTrue ho =>
      refine refuses_at s (.resolveIndex o) .badArgument _ hfree.1 ?_ rfl
      rcases ho with rfl | rfl <;>
        simp [firstFailure, State.commandChecks, State.lineIn, hsetup, hfrozen]
    case isFalse ho =>
      split
      case isTrue hnot =>
        subst hnot
        exact completes_gate s (.resolveIndex 2) d hfree
          (by simp [firstFailure, State.commandChecks, State.lineIn, hsetup, hfrozen])
      case isFalse => trivial

/-- The exit lacks room exactly if the pallet at the unload station is in service and the queue is full (R22). -/
theorem exitHasRoom_eq_false :
    s.exitHasRoom = false ↔
      ∃ u, (s.entry s.unloadStation).pallet = some u ∧ (s.pallet u).service = .inService ∧
        s.config.params.returnCap ≤ s.tracking.queue.length := by
  unfold State.exitHasRoom
  cases (s.entry s.unloadStation).pallet <;> simp

/-- The map shift and its accounting leave the gate as it is (R27, R138). -/
theorem gate_shifted (leaving : Option PalletNo) :
    (s.mapShift.ungaugedAccounting leaving).gate = s.gate := by
  rw [(Completing.accounted_ungaugedAccounting leaving).rest, Shifting.mapShift_eq]

/-- Settles O19: the room at the exit, then the map shift with its accounting and the release of the gate. -/
theorem resolveComplete : Obligations.ResolveComplete := by
  intro s d hfree hsetup hfrozen
  simp only [← exitHasRoom_eq_false]
  have hchecks : firstFailure (s.commandChecks (.resolveIndex 1)) =
      if s.exitHasRoom = false then some .returnFull else none := by
    cases h : s.exitHasRoom <;>
      simp [firstFailure, State.commandChecks, State.lineIn, hsetup, hfrozen, h]
  split
  case isTrue hfull =>
    exact refuses_at s (.resolveIndex 1) .returnFull _ hfree.1 (by rw [hchecks, if_pos hfull]) rfl
  case isFalse hroom =>
    have heffect := completes_gate s (.resolveIndex 1) d hfree (by rw [hchecks, if_neg hroom])
    have hgate : ((s.answered .ok).mapShift.ungaugedAccounting s.gaugedPallet).gate = s.gate :=
      gate_shifted (s.answered .ok) s.gaugedPallet
    rw [State.commandEffect, if_pos rfl, State.resolveComplete] at heffect
    rw [← hgate]
    exact heffect

end Sys2Proof.Machine.LineCommands
end

section
/-! SUPPORT. The field inputs, power-on reset, and the marks and boundaries of the 1 ms tick (R39 to R43, R64, R67 to R69, R79, R96, R97, R121, R123, R176). -/

namespace Sys2Proof.Machine.FieldInputs

variable (s : State)

/-! ### The input edges -/

/-- The transaction in progress abandoned: no record, no answer, and a response still owed where it was forwarded (R166). -/
theorem abandonTransaction_eq :
    s.abandonTransaction =
      { s with
        classifier :=
          match s.classifier.record with
          | none => s.classifier
          | some t =>
            { s.classifier with
              record := none, reply := .none
              timer := { s.classifier.timer with running := false }
              stale := s.classifier.stale || t.stage == .forwarded } } := by
  unfold State.abandonTransaction
  cases s.classifier.record with
  | none => rfl
  | some t =>
    by_cases h : t.stage = .forwarded
    · simp [h, State.answer]
    · simp [h, State.answer]

/-- Settles O48: each edge with its pin and what the part claims at it. -/
theorem inputEdges : Obligations.InputEdges := by
  intro s risen active abandoned
  have habandoned : State.abandonTransaction
      { s with pins := { s.pins with controllerReset := true } } = abandoned :=
    abandonTransaction_eq _
  have hreset : abandoned.lineIn [.aligning, .producing, .restricted, .stopped] = true ↔
      s.line.state = .aligning ∨ s.line.state = .producing ∨ s.line.state = .restricted ∨
        s.line.state = .stopped := by
    rw [Stations.lineIn_iff]
    simp [abandoned]
  refine ⟨?_, ?_, rfl, rfl, rfl, ?_, rfl⟩
  · refine congrArg Host.Outcome.next ?_
    by_cases h : s.gate.state = .indexing
    · simp [State.indexing, h]
    · have hidle : (s.gate.state == .indexing) = false := by simpa using h
      rw [hidle, Bool.or_false, if_neg (by simpa [State.indexing] using h)]
  · refine congrArg Host.Outcome.next ?_
    by_cases h : s.gate.state = .indexing <;> simp [State.indexing, h, risen]
  · refine congrArg Host.Outcome.next ?_
    simp only [habandoned, hreset]

/-- A flag raised where a condition holds (R150). -/
theorem hasFlag_raiseIf (c : Bool) (f g : Flag) :
    (s.raiseIf c f).hasFlag g = (s.hasFlag g || (c && f == g)) := by
  cases c
  · simp [State.raiseIf]
  · simp [State.raiseIf]

/-! ### The marks of the index timer and of the align timer -/

/-- A boundary of the index timer that is due and reaches a mark (R39, R40). -/
theorem takeIndexBoundary_marked (hrunning : s.gate.timer.running = true)
    (hdue : s.gate.timer.due = true) (hmark : s.indexMarked = true) :
    s.takeIndexBoundary =
      let n := s.gate.timer.count + 1
      let counted := { s with gate := { s.gate with timer := ⟨n, true, false⟩ } }
      let slowed := if n = s.config.params.indexSlow then counted.raise .slowIndex else counted
      if n = s.config.params.indexLimit then slowed.trip .indexTimeout else slowed := by
  rw [State.takeIndexBoundary, if_pos (by simp [hrunning, hdue, hmark])]
  simp [State.raiseIf]

/-- The state in which an align timer's boundary ends the attempt (R123). -/
theorem takeAlignBoundary_due (hrunning : s.identity.timer.running = true)
    (hdue : s.identity.timer.due = true) :
    s.takeAlignBoundary =
      { s with identity :=
        { s.identity with timer := ⟨s.identity.timer.count + 1, true, false⟩ } }.failAttempt := by
  rw [State.takeAlignBoundary, if_pos (by simp [hrunning, hdue])]

theorem takeAlignBoundary_of_not
    (h : s.identity.timer.running = false ∨ s.identity.timer.due = false) :
    s.takeAlignBoundary = s := by
  rw [State.takeAlignBoundary, if_neg (by rcases h with h | h <;> simp [h])]

/-- Settles O53: each mark at its count alone, and the failed attempt at the align window. -/
theorem indexMarksAndAlignWindow : Obligations.IndexMarksAndAlignWindow := by
  intro s
  refine ⟨fun hrunning hdue => ?_, fun hstill => ?_, fun hrunning hdue haligning => ?_,
    fun hstill => congrArg Host.Outcome.next (takeAlignBoundary_of_not s hstill)⟩
  · intro n counted slowed marked
    have hmarked (hmark : s.indexMarked = true) : s.takeIndexBoundary = marked :=
      takeIndexBoundary_marked s hrunning hdue hmark
    have hslow (h : n = s.config.params.indexSlow) : s.takeIndexBoundary = marked :=
      hmarked (by simp [State.indexMarked, n, ← h])
    have hlimit (h : n = s.config.params.indexLimit) : s.takeIndexBoundary = marked :=
      hmarked (by simp [State.indexMarked, n, ← h])
    refine ⟨congrArg Host.Outcome.next ?_, congrArg Host.Outcome.next ?_⟩
    · split
      case isTrue h => exact hslow h
      case isFalse => rfl
    · split
      case isTrue h => exact hlimit h
      case isFalse => rfl
  · have hnone : s.takeIndexBoundary = s :=
      takeIndexBoundary_of_not s (by rcases hstill with h | h <;> simp [h])
    exact ⟨congrArg Host.Outcome.next (by rw [hnone, ite_self]),
      congrArg Host.Outcome.next (by rw [hnone, ite_self])⟩
  · intro failed
    let counted : State :=
      { s with identity := { s.identity with timer := ⟨s.identity.timer.count + 1, true, false⟩ } }
    have hended : Tags.attemptEnded counted = failed := rfl
    refine ⟨fun hlast => congrArg Host.Outcome.next ?_, fun hmore hopen =>
      congrArg Host.Outcome.next ?_⟩
    · rw [takeAlignBoundary_due s hrunning hdue, Tags.failAttempt_last counted hlast, hended]
      rfl
    · rw [takeAlignBoundary_due s hrunning hdue, Tags.failAttempt_of_open counted hmore hopen, hended,
        Tags.resetUncertain_eq]
      rfl

/-! ### Power-on reset -/

/-- Settles O49: each block at its power-on value, the inputs at the levels found. -/
theorem powerOnReset : Obligations.PowerOnReset := by
  refine ⟨fun s straps => ⟨_, rfl, ?_⟩, congrArg Host.Outcome.next ?_⟩
  · refine ⟨by simp [State.reset], fun p => ?_, fun k => ?_, by simp [State.reset],
      by simp [State.reset, MarkTimer.stopped, Capture.powerOn], by simp [State.reset], fun k => ?_,
      by simp [State.reset], by simp [State.reset, MarkTimer.stopped],
      by simp [State.reset, Axes.zero], fun r => ?_, by simp [State.reset, LineParams.powerOn],
      fun k => ?_, fun v => ?_, fun f => ?_, ?_, by simp, by simp⟩
    case refine_1 => simp [State.pallet, State.reset, Pallet.powerOn, Axes.zero]
    case refine_2 => simp [State.entry, State.reset, MapEntry.vacant]
    case refine_3 =>
      simp [State.station, Station.powerOn, Capture.powerOn, InputLine.settled]
    case refine_4 => simp [State.rule, State.reset, PatchRule.powerOn]
    case refine_5 =>
      have hunload : k = 2 ↔ k.val = 2 := Fin.ext_iff
      simp [State.descriptor, State.reset, Descriptor.powerOn, hunload]
    case refine_6 => simp [State.variantEntry, State.reset, VariantEntry.powerOn]
    case refine_7 =>
      rw [hasFlag_raiseIf, hasFlag_raiseIf]
      cases f <;> simp [State.hasFlag, State.reset]
    case refine_8 =>
      cases s.pins.estop <;> cases s.pins.driveFault <;> rfl
  · simp [State.reset, State.station, Station.powerOn, InputLine.settled, State.raiseIf, Vector.ext_iff]

/-! ### The tick boundary -/

/-- With nothing due from the last boundary, a tick takes nothing first (R64). -/
theorem takeDue_of_nothingDue (h : s.nothingDue) : s.takeDue = s := by
  obtain ⟨hresponse, hindex, halign, hstations⟩ := h
  have htimeout : s.timeOut = s := by
    unfold State.timeOut
    cases s.forwarded <;> simp [hresponse]
  have hsettle (k : StationNo) : (s.settleInput k .clear).settleInput k .presence = s := by
    obtain ⟨-, hclear, hpresence⟩ := hstations k
    have hcleared : s.settleInput k .clear = s :=
      Stations.updateClear_of_eq s k _ (Stations.settle_of_not_due _ hclear)
    rw [hcleared]
    exact Stations.updatePresence_of_eq s k _ (Stations.settle_of_not_due _ hpresence)
  have hunit (k : StationNo) : s.takeUnitBoundary k = s := by
    rw [State.takeUnitBoundary, if_neg (by simp [(hstations k).1])]
  have hfixed (f : State → StationNo → State) (hf : ∀ k, f s k = s) (ks : List StationNo) :
      ks.foldl f s = s := by
    induction ks with
    | nil => rfl
    | cons k ks ih => rw [List.foldl_cons, hf, ih]
  have hmark : s.takeIndexBoundary = s := takeIndexBoundary_of_not s (by simp [hindex])
  simp only [State.takeDue, htimeout, hfixed (fun s k => (s.settleInput k .clear).settleInput k .presence) hsettle, hmark,
    hfixed (fun s k => s.takeUnitBoundary k) hunit, takeAlignBoundary_of_not s (.inr halign)]

/-- A timer at a tick boundary, its marks given by a test (R64; log 3). -/
theorem tick_eq (marks : List Nat) (atMark : Nat → Bool) (t : MarkTimer)
    (h : ∀ n, marks.contains n = atMark n) :
    t.tick marks =
      if t.running = false then t
      else if atMark (t.count + 1) = true then { t with due := true }
      else { t with count := t.count + 1 } := by
  rw [MarkTimer.tick, h]
  cases t.running <;> rfl

/-- The response timer counts to its limit of two boundaries (R164). -/
theorem responseTick_eq (t : ResponseTimer) :
    t.tick =
      { t with count := if t.running = true ∧ t.count < 2 then t.count + 1 else t.count } := by
  unfold ResponseTimer.tick
  by_cases h : t.running = true ∧ t.count < 2
  · simp [h, Config.responseLimit]
  · rw [if_neg h, if_neg (by simpa [Config.responseLimit] using h)]

/-- A filter at a tick boundary (R79). -/
theorem filterTick_eq (filterMs : Nat) (l : InputLine) :
    l.tick filterMs =
      match l.filter with
      | .idle => l
      | .pending v n _ => { l with filter := .pending v (n + 1) (decide (filterMs ≤ n + 1)) } := by
  unfold InputLine.tick
  cases l.filter <;> rfl

/-- A unit runs while its station is engaged below its limit, neither held nor tripped (R55). -/
theorem unitRuns_iff (k : StationNo) :
    s.unitRuns k = true ↔
      (s.station k).engagement ≠ none ∧ (s.station k).budget < (s.descriptor k).limit ∧
        s.monitor.held = false ∧ s.line.state ≠ .tripped := by
  simp [State.unitRuns, Option.isSome_iff_ne_none, and_assoc]

/-- The marks of a unit (R64). -/
theorem unitMarked_iff (k : StationNo) :
    s.unitMarked k = true ↔
      (s.station k).budget + 1 = (s.descriptor k).ack ∨
        (s.station k).budget + 1 = (s.descriptor k).warn ∨
        (s.station k).budget + 1 = (s.descriptor k).limit := by
  simp [State.unitMarked, State.unitNext]

/-- A station at a tick boundary: its filters, and its unit if it runs (R64, R79). -/
theorem tickStation_eq (k : StationNo) :
    s.tickStation k (s.station k) =
      { s.station k with
        clear := (s.station k).clear.tick s.config.params.filterMs
        presence := (s.station k).presence.tick s.config.params.filterMs
        budget :=
          if s.unitRuns k = true ∧ ¬s.unitMarked k = true then (s.station k).budget + 1
          else (s.station k).budget
        budgetDue :=
          if s.unitRuns k = true ∧ s.unitMarked k = true then true else (s.station k).budgetDue } := by
  rw [State.tickStation]
  cases s.unitRuns k
  · rfl
  · cases s.unitMarked k <;> rfl

/-- Settles O52: the steps still due, then one count of every counter. -/
theorem tick : Obligations.Tick := by
  refine ⟨fun s => ⟨_, rfl⟩, fun before => ⟨before.takeDue, runs_dueSteps before,
    takeDue_of_nothingDue before, ?_⟩⟩
  suffices hticked : before.takeDue.advance = _ from congrArg Host.Outcome.next hticked
  generalize before.takeDue = s
  have hindex : s.gate.timer.tick [s.config.params.indexSlow, s.config.params.indexLimit] = _ :=
    tick_eq _ (fun n => n == s.config.params.indexSlow || n == s.config.params.indexLimit)
      s.gate.timer fun n => by simp [Bool.beq_eq_decide_eq]
  have halign : s.identity.timer.tick [s.config.params.alignWindow] = _ :=
    tick_eq _ (fun n => n == s.config.params.alignWindow) s.identity.timer fun n => by
      simp [Bool.beq_eq_decide_eq]
  rw [State.advance, hindex, halign, responseTick_eq]
  simp only [tickStation_eq, unitRuns_iff, unitMarked_iff, filterTick_eq] <;>
    rfl

end Sys2Proof.Machine.FieldInputs
end

section
/-! SUPPORT. A change of a station's effective clear: the fall that acknowledges an engagement, the rise that completes it, and the block the completion claims (R43, R65, R67 to R69, R79). -/

namespace Sys2Proof.Machine.ClearInput

variable (s : State) (k : StationNo)

/-! ### Acknowledgement -/

/-- A trip claim leaves every engagement (R93). -/
theorem engagement_trip (cause : TripCause) :
    ((s.trip cause).station k).engagement = (s.station k).engagement := by
  cases h : s.lineIn [.setup, .tripped] with
  | true => rw [State.trip_not_taken s cause h]
  | false =>
    have hstopped : ((Tripping.beforeTrip s cause).station k).engagement =
        (s.stopUnits.station k).engagement := rfl
    rw [Tripping.trip_taken s cause h, State.station_enterLine, hstopped, State.stopUnits,
      State.station_mapStations]

/-- The state after the clear line's new state and a fall of its effective value, before the acknowledgement (R43). -/
def fallen (moved : State) : State :=
  if s.gate.state = .indexing ∧ s.inLine k = true then moved.trip .clearLost else moved

theorem engagement_fallen (line : InputLine) :
    ((fallen s k (s.setStation k { s.station k with clear := line })).station k).engagement =
      (s.station k).engagement := by
  unfold fallen
  split
  · rw [engagement_trip, State.station_setStation, if_pos rfl]
  · rw [State.station_setStation, if_pos rfl]

theorem clearFell_moved (line : InputLine) :
    (s.setStation k { s.station k with clear := line }).clearFell k =
      (fallen s k (s.setStation k { s.station k with clear := line })).acknowledge k := by
  have hindexing : ((s.setStation k { s.station k with clear := line }).indexing &&
      (s.setStation k { s.station k with clear := line }).inLine k) = true ↔
        s.gate.state = .indexing ∧ s.inLine k = true := by
    rw [Bool.and_eq_true]
    exact and_congr_left' decide_eq_true_iff
  simp only [State.clearFell, hindexing, fallen]

/-- The fall of effective clear at an engaged station acknowledges (R65). -/
theorem acknowledge_of_engaged (e : Engagement) (h : (s.station k).engagement = some e) :
    s.acknowledge k =
      s.setStation k { s.station k with engagement := some { e with acknowledged := true } } := by
  rw [State.acknowledge, h]

/-- The fall of effective clear at a station that is not engaged acknowledges nothing (R65). -/
theorem acknowledge_of_idle (h : (s.station k).engagement = none) : s.acknowledge k = s := by
  rw [State.acknowledge, h]

/-! ### Completion -/

/-- The station after a completion, its clear line in a new state: the capture taken, the engagement ended (R67, R68). -/
def ended (line : InputLine) : State :=
  (s.setStation k
    { s.station k with
      clear := line, engagement := none, budgetDue := false
      capture :=
        { value := (s.station k).budget, valid := true
          overwritten := (s.station k).capture.valid } }).raiseIf
    (s.station k).capture.valid .captureOverwrite

theorem completeStation_moved (line : InputLine) (casting : Bool) :
    (s.setStation k { s.station k with clear := line }).completeStation k casting =
      (ended s k line).claimCompletion k casting := by
  simp [State.completeStation, ended, Station.endEngagement, Capture.take]

theorem tracking_ended (line : InputLine) : (ended s k line).tracking = s.tracking := by
  simp [ended]

theorem unloadStation_ended (line : InputLine) : (ended s k line).unloadStation = s.unloadStation := by
  simp [State.unloadStation, ended]

/-- A completion at the unload station empties its pallet's block (R69). -/
theorem claimCompletion_unload (casting : Bool) (p : PalletNo)
    (hp : (s.entry k).pallet = some p) (hk : k = s.unloadStation) :
    s.claimCompletion k casting = s.setPallet p { s.pallet p with block := .empty } := by
  have hempty (x : State) (hx : x.entry k = s.entry k) : x.claimBlock k .empty = x.setBlock p .empty := by
    rw [State.claimBlock, hx, hp]
  rw [State.claimCompletion, if_pos hk]
  split
  · have hloaded : s.claimBlock k .inWork = s.setBlock p .inWork := by rw [State.claimBlock, hp]
    have hentry : (s.setBlock p .inWork).entry k = s.entry k := rfl
    rw [hloaded, hempty _ hentry]
    simp [State.setBlock, Gauge.setPallet_setPallet]
  · exact hempty s rfl

/-- A completion at the load station with CASTING loads a block, at one that is not the unload station as well (R69). -/
theorem claimCompletion_load (p : PalletNo) (hp : (s.entry k).pallet = some p)
    (hunload : k ≠ s.unloadStation) (hk : k = 0) :
    s.claimCompletion k true = s.setPallet p { s.pallet p with block := .inWork } := by
  rw [State.claimCompletion, if_neg hunload, if_pos ⟨congrArg Fin.val hk, rfl⟩, State.claimBlock, hp]
  rfl

/-- Any other completion claims no block (R69). -/
theorem claimCompletion_none (casting : Bool)
    (h : (s.entry k).pallet = none ∨ (k ≠ s.unloadStation ∧ (k ≠ 0 ∨ casting = false))) :
    s.claimCompletion k casting = s := by
  rcases h with hnone | ⟨hunload, hload⟩
  · have hvacant (b : Block) : s.claimBlock k b = s := by rw [State.claimBlock, hnone]
    simp [State.claimCompletion, hvacant]
  · rw [State.claimCompletion, if_neg hunload, if_neg]
    rintro ⟨hk, hcasting⟩
    rcases hload with hne | hno
    · exact hne (Fin.ext hk)
    · simp [hno] at hcasting

/-- The rise of effective clear at a station that is not engaged (R67). -/
theorem clearRose_of_idle (line : InputLine) (h : (s.station k).engagement = none) :
    (s.setStation k { s.station k with clear := line }).clearRose k =
      s.setStation k { s.station k with clear := line } := by
  simp [State.clearRose, h]

/-- The rise of effective clear at an engaged station completes it once it is acknowledged (R67). -/
theorem clearRose_of_engaged (line : InputLine) (e : Engagement)
    (h : (s.station k).engagement = some e) :
    (s.setStation k { s.station k with clear := line }).clearRose k =
      if e.acknowledged = true then (ended s k line).claimCompletion k e.casting
      else s.setStation k { s.station k with clear := line } := by
  rw [← completeStation_moved, State.clearRose, State.station_setStation, if_pos rfl, h]

/-! ### The two changes -/

/-- A clear line given a new state whose effective value differs (R65, R67, R79). -/
theorem updateClear_of_changed (f : InputLine → InputLine) (line : InputLine)
    (hline : f (s.station k).clear = line)
    (hchange : line.filtered ≠ (s.station k).clear.filtered) :
    s.updateClear k f =
      if line.filtered = true then (s.setStation k { s.station k with clear := line }).clearRose k
      else (fallen s k (s.setStation k { s.station k with clear := line })).acknowledge k := by
  rw [State.updateClear, hline, State.clearChanged, if_neg hchange.symm, clearFell_moved]

/-- Settles O51: both ways in which effective clear changes, each with its fall and its rise. -/
theorem clearEvents : Obligations.ClearEvents := by
  intro s k changes clear
  have hchanges (i : Instr) (line : InputLine)
      (hx : exec i s = .next
        (if line.filtered = true then
          (s.setStation k { s.station k with clear := line }).clearRose k
        else (fallen s k (s.setStation k { s.station k with clear := line })).acknowledge k)) : changes i line line.filtered := by
    cases he : line.filtered with
    | false => 
      rw [he, if_neg Bool.false_ne_true] at hx
      cases hengaged : (s.station k).engagement with
      | none =>
        rw [acknowledge_of_idle _ k ((engagement_fallen s k line).trans hengaged)] at hx
        dsimp only [changes, fallen] at hx ⊢
        generalize s.setStation k { s.station k with clear := line } = moved at hx ⊢
        rw [hengaged]
        exact hx
      | some e =>
        rw [acknowledge_of_engaged _ k e ((engagement_fallen s k line).trans hengaged)] at hx
        dsimp only [changes, fallen] at hx ⊢
        generalize s.setStation k { s.station k with clear := line } = moved at hx ⊢
        rw [hengaged]
        exact hx
    | true => 
      rw [he, if_pos rfl] at hx
      cases hengaged : (s.station k).engagement with
      | none =>
        rw [clearRose_of_idle s k line hengaged] at hx
        dsimp only [changes]
        generalize s.setStation k { s.station k with clear := line } = moved at hx ⊢
        rw [hengaged]
        exact hx
      | some e =>
        rw [clearRose_of_engaged s k line e hengaged] at hx
        dsimp only [changes]
        generalize s.setStation k { s.station k with clear := line } = moved at hx ⊢
        rw [hengaged]
        dsimp only
        split
        case isTrue hnot =>
          rw [if_neg (by simp [hnot])] at hx
          exact hx
        case isFalse hacknowledged =>
          rw [if_pos (by simpa using hacknowledged)] at hx
          have hentry : (ended s k line).entry k = s.entry k := by
            rw [State.entry, State.entry, tracking_ended]
          have hpallet (p : PalletNo) : (ended s k line).pallet p = s.pallet p := by
            rw [State.pallet, State.pallet, tracking_ended]
          have hunloads := unloadStation_ended s k line
          refine ⟨fun p hp hk => ?_, fun p hp hunload hk hcasting => ?_, fun hnone => ?_⟩
          · rw [claimCompletion_unload _ k e.casting p (by rw [hentry, hp]) (by rw [hunloads, ← hk]),
              hpallet] at hx
            exact hx
          · rw [hcasting, claimCompletion_load _ k p (by rw [hentry, hp]) (by rwa [hunloads]) hk,
              hpallet] at hx
            exact hx
          · rw [claimCompletion_none _ k e.casting (by rwa [hentry, hunloads])] at hx
            exact hx
  refine ⟨fun level hms hlevel hfiltered => hchanges _ ⟨level, level, .idle⟩ ?_,
    fun v held hpending hv => hchanges _ ⟨clear.level, v, .idle⟩ ?_⟩
  · refine congrArg Host.Outcome.next (updateClear_of_changed s k _ _ ?_ hfiltered)
    rw [InputLine.change, if_neg hlevel, if_neg hfiltered, if_pos hms]
  · refine congrArg Host.Outcome.next (updateClear_of_changed s k _ _ ?_ hv)
    rw [InputLine.settle, hpending]

end Sys2Proof.Machine.ClearInput
end

section
/-! SUPPORT. The transfer word and the code NONE: R33's checks in order, the acceptance of an index, and the writes that pass (R32 to R37, R58, R59). -/

namespace Sys2Proof.Machine.IndexWord

variable (s : State)

/-! ### The index request -/

/-- The answer to an index request: its refusal, or its acceptance (R33 to R36). -/
def IndexAnswer (s : State) (override : Bool) (d : Word) : Option Cause → Prop
  | some cause => exec (.index override) s = .next (s.refusedWrite 0x34 cause (s.indexPlace cause))
  | none => Completes (.index override) d s (s.answered .ok).acceptIndex

theorem decide_transfer (request override : Bool) :
    s.decide ⟨.write, GateWord.transfer.offset, .four, codeWord request override⟩ =
      s.decideTransfer ⟨.write, GateWord.transfer.offset, .four, codeWord request override⟩ := by
  simp [State.decide, State.decideWrite, windowOf_offset, GateWord.offset_aligned, Size.bytes,
    State.decideGateWrite]

/-- The cause of the first check that fails is one of the causes listed (R159). -/
theorem mem_of_firstFailure {l : List (Bool × Cause)} {cause : Cause}
    (h : firstFailure l = some cause) : cause ∈ l.map Prod.snd := by
  induction l with
  | nil => cases h
  | cons x l ih =>
    obtain ⟨passes, first⟩ := x
    cases passes with
    | false =>
      obtain rfl : first = cause := by simpa [firstFailure] using h
      simp
    | true => exact List.mem_cons_of_mem _ (ih (by simpa [firstFailure] using h))

/-- No check of an index request refuses with PATCH_OVERFLOW, which alone has an effect beyond its report. -/
theorem indexChecks_cause (override : Bool) (cause : Cause)
    (h : firstFailure (s.indexChecks override) = some cause) : cause ≠ .patchOverflow := by
  rintro rfl
  simpa [State.indexChecks] using mem_of_firstFailure h

/-- An index request is answered by R33's checks (R33 to R36). -/
theorem index_answer (override : Bool) (d : Word) (hfree : s.portsFree) :
    IndexAnswer s override d (firstFailure (s.indexChecks override)) := by
  have hd := decide_transfer s true override
  rw [State.decideTransfer, if_neg (by simp), readTransfer_codeWord] at hd
  cases hf : firstFailure (s.indexChecks override) with
  | some cause =>
    simp only [Decision.after, hf] at hd
    exact Stations.write_refused s _ _ .four (codeWord true override) cause _ rfl hfree.1
      (by rw [four_mask]; exact hd) (indexChecks_cause s override cause hf)
  | none =>
    have hp : s.presents (.index override) =
        some (s.onBus ⟨.write, GateWord.transfer.offset, .four, codeWord true override⟩) := by
      cases override <;> rfl
    have hx : exec (.index override) s =
        s.ifPortFree (s.arrive ⟨.write, GateWord.transfer.offset, .four, codeWord true override⟩) := by
      show s.hostWrite _ _ _ = _
      rw [State.hostWrite, four_mask]
    have hchecks : firstFailure ((s.answered .ok).indexChecks override) = none := hf
    simp only [Decision.after, hf] at hd
    have h := completes_snoop s _ _ d hp hx hfree rfl hd
    have heffect : (s.answered .ok).snoopAtOk GateWord.transfer.offset .four
        (codeWord true override) = (s.answered .ok).acceptIndex := by
      simp [State.snoopAtOk, windowOf_offset, State.gateWordAtOk, State.transferAtOk,
        readTransfer_codeWord, hchecks]
    rw [heffect] at h
    exact h

/-- A refusal at a station names the lowest of its kind, with the pallet there (R34). -/
theorem placeOfFirst_of_lowest (test : StationNo → Bool) (k : StationNo)
    (h : Lowest k (fun j => test j = true)) :
    s.placeOfFirst test = ⟨some (StationNo.wide k), (s.entry k).pallet⟩ := by
  rw [State.placeOfFirst, Tags.find?_allStations k test h]
  rfl

theorem any_allStations (test : StationNo → Bool) :
    allStations.any test = true ↔ ∃ k, test k = true := by
  simp [allStations]

theorem engagedAt_iff (k : StationNo) :
    s.engagedAt k = true ↔ s.inLine k = true ∧ (s.station k).engagement ≠ none := by
  simp [State.engagedAt, Option.isSome_iff_ne_none]

theorem notClearAt_iff (k : StationNo) :
    s.notClearAt k = true ↔ s.inLine k = true ∧ (s.station k).clear.filtered = false := by
  simp [State.notClearAt]

theorem tagPendingAt_iff (k : StationNo) :
    s.tagPendingAt k = true ↔
      s.isReaderStation k = true ∧ (s.entry k).pallet ≠ none ∧ (s.entry k).status = .predicted := by
  simp [State.tagPendingAt, MapEntry.occupied, Option.isSome_iff_ne_none, and_assoc]

theorem uncertainAt_iff (k : StationNo) :
    s.uncertainAt k = true ↔ s.inLine k = true ∧ (s.entry k).status = .uncertain := by
  simp [State.uncertainAt]

/-- The acceptance of an index: the faults it notes, the gate INDEXING with its permit, and no station enabled (R35, R36, R81). -/
theorem acceptIndex_eq :
    s.acceptIndex =
      let faulted := (s.addFaultIf (allStations.any s.tagPendingAt) .tagMissing).addFaultIf
        (allStations.any s.uncertainAt) .uncertainMoved
      { faulted with
        gate :=
          { s.gate with
            state := .indexing, motionSeen := false, permit := true
            timer := { count := 0, running := true, due := false } }
        monitor :=
          { s.monitor with
            stations := Vector.ofFn fun k => { s.station k with enable := false } } } := by
  simp [State.acceptIndex, State.refreshEnables, State.mapStations, State.enablePermitted,
    State.indexing, State.station, MarkTimer.restart]

/-- Settles O22: R33's checks one after the other, then the acceptance with the faults it notes. -/
theorem indexRequest : Obligations.IndexRequest := by
  intro s override d hfree refused refusedAtLowest engaged notClear tagPending uncertain
  have hany {test : StationNo → Bool} {p : StationNo → Prop} (h : ∀ k, test k = true ↔ p k) :
      allStations.any test = true ↔ ∃ k, p k := by
    rw [any_allStations]
    exact exists_congr h
  have hlowest {cause : Cause} {test : StationNo → Bool} {p : StationNo → Prop}
      (h : ∀ k, test k = true ↔ p k) (hplace : s.indexPlace cause = s.placeOfFirst test)
      (hrefused : IndexAnswer s override d (some cause)) : refusedAtLowest cause p := by
    intro k hk
    have hfirst : Lowest k (fun j => test j = true) := by simpa only [Lowest, h] using hk
    have hplaced := hplace.trans (placeOfFirst_of_lowest s test k hfirst)
    rw [IndexAnswer, hplaced] at hrefused
    exact hrefused
  have hengaged := hany (engagedAt_iff s)
  have hnotClear := hany (notClearAt_iff s)
  have hpending := hany (tagPendingAt_iff s)
  have huncertain := hany (uncertainAt_iff s)
  refine Stations.ite_of_firstFailure (index_answer s override d hfree) ?_ id fun h => ?_
  · simp [State.lineIn, Decidable.or_iff_not_imp_left]
  refine Stations.ite_of_firstFailure h (by simp) id fun h => ?_
  refine Stations.ite_of_firstFailure h (by simp [State.indexing]) id fun h => ?_
  refine Stations.ite_of_firstFailure h (by simp) id fun h => ?_
  refine Stations.ite_of_firstFailure h (by simp) id fun h => ?_
  refine Stations.ite_of_firstFailure h (by simp) id fun h => ?_
  refine Stations.ite_of_firstFailure h (by simp) id fun h => ?_
  refine Stations.ite_of_firstFailure h (by rw [← hengaged]; simp)
    (hlowest (engagedAt_iff s) rfl) fun h => ?_
  refine Stations.ite_of_firstFailure h (by rw [← hnotClear]; simp)
    (hlowest (notClearAt_iff s) rfl) fun h => ?_
  refine Stations.ite_of_firstFailure h
    (by rw [← LineCommands.exitHasRoom_eq_false]; simp) id fun h => ?_
  refine Stations.ite_of_firstFailure h (by cases override <;> simp) id fun h => ?_
  refine Stations.ite_of_firstFailure h (by rw [← hpending]; cases override <;> simp)
    (hlowest (tagPendingAt_iff s) rfl) fun h => ?_
  refine Stations.ite_of_firstFailure h (by rw [← huncertain]; cases override <;> simp)
    (hlowest (uncertainAt_iff s) rfl) fun h => ?_
  intro faulted
  have hfaulted : faulted =
      ((s.answered .ok).addFaultIf (allStations.any s.tagPendingAt) .tagMissing).addFaultIf
        (allStations.any s.uncertainAt) .uncertainMoved := by
    rw [Bool.eq_iff_iff.mpr (hpending.trans decide_eq_true_iff.symm),
      Bool.eq_iff_iff.mpr (huncertain.trans decide_eq_true_iff.symm)]
  have haccepted : Completes (.index override) d s (s.answered .ok).acceptIndex := h
  rw [acceptIndex_eq] at haccepted
  rw [hfaulted]
  exact haccepted

/-! ### The code NONE -/

/-- A transfer word with the code NONE passes but in TRIPPED (R32). -/
theorem transferNone_answer (option : Bool) (d : Word) (hfree : s.portsFree) :
    if s.line.state = .tripped then
      exec (.transferNone option) s = .next (s.refusedWrite 0x34 .notInState .none)
    else Completes (.transferNone option) d s (s.answered .ok) := by
  have hd := decide_transfer s false option
  rw [State.decideTransfer, if_neg (by simp), readTransfer_codeWord] at hd
  dsimp only at hd
  split
  case isTrue ht =>
    rw [if_pos ht] at hd
    exact Stations.write_refused s _ GateWord.transfer.offset .four (codeWord false option)
      .notInState _ rfl hfree.1 (by rw [four_mask]; exact hd) (by decide)
  case isFalse ht =>
    rw [if_neg ht] at hd
    have hp : s.presents (.transferNone option) =
        some (s.onBus ⟨.write, GateWord.transfer.offset, .four, codeWord false option⟩) := by
      cases option <;> rfl
    have hx : exec (.transferNone option) s =
        s.ifPortFree (s.arrive ⟨.write, GateWord.transfer.offset, .four, codeWord false option⟩) := by
      show s.hostWrite _ _ _ = _
      rw [State.hostWrite, four_mask]
    exact completes_pass s _ _ d hp hx hfree rfl hd

/-- What the part decides of a cycle-start word with the code NONE (R58). -/
theorem decideCycleStart_none (k : StationNo) (o : Offset) (option : Bool) :
    s.decideCycleStart ⟨.write, o, .four, codeWord false option⟩ k =
      if option = true ∧ k ≠ 0 then .refuse .malformed (s.placeAt k)
      else if s.gate.state = .indexing then .refuse .indexInFlight (s.placeAt k)
      else .forward .pass o (codeWord false option) := by
  by_cases hi : s.gate.state = .indexing <;>
    simp [State.decideCycleStart, readCycleStart_codeWord, Request.forwardAs, Decision.after,
      firstFailure, State.indexing, hi]

/-- Settles O25: TRIPPED alone refuses the transfer word's NONE; the line, the form and an index in flight a station's. -/
theorem noneCodes : Obligations.NoneCodes := by
  intro s k option d hfree o refused
  refine ⟨transferNone_answer s option d hfree, ?_⟩
  have hd := Stations.decide_commandWrite s k 0 0 .four (codeWord false option) rfl
  rw [if_pos (show (0 : Fin 64).val = 0 from rfl), decideCycleStart_none] at hd
  have early (cause : Cause) (place : Place) (hp : cause ≠ .patchOverflow)
      (hd : s.decide ⟨.write, commandOffset k 0 0, .four, codeWord false option⟩ =
        .refuse cause place) :
      exec (.cycleStartNone k option) s = .next (s.refusedWrite o cause place) :=
    Stations.write_refused s _ (commandOffset k 0 0) .four (codeWord false option) cause place rfl
      hfree.1 (by rw [four_mask]; exact hd) hp
  split
  case isTrue hk =>
    rw [if_neg (by simp [hk])] at hd
    exact early _ _ (by decide) hd
  case isFalse hk =>
    rw [if_pos (by simpa using hk)] at hd
    split
    case isTrue hc =>
      rw [if_pos hc] at hd
      exact early _ _ (by decide) hd
    case isFalse hc =>
      rw [if_neg hc] at hd
      split
      case isTrue hi =>
        rw [if_pos hi] at hd
        exact early _ _ (by decide) hd
      case isFalse hi =>
        rw [if_neg hi] at hd
        have hp : s.presents (.cycleStartNone k option) =
            some (s.onBus ⟨.write, commandOffset k 0 0, .four, codeWord false option⟩) := by
          cases option <;> rfl
        have hx : exec (.cycleStartNone k option) s =
            s.ifPortFree (s.arrive ⟨.write, commandOffset k 0 0, .four, codeWord false option⟩) := by
          show s.hostWrite _ _ _ = _
          rw [State.hostWrite, four_mask]
        exact completes_pass s _ _ d hp hx hfree rfl hd

end Sys2Proof.Machine.IndexWord
end

section
/-! SUPPORT. A disagreeing good tag at a reader with authority: the correction of the entry, or the conflict (R116, R117). -/

namespace Sys2Proof.Machine.Tags

variable (s : State) (r : ReaderNo) (k : StationNo) (p : PalletNo)

/-- The pallet that a correction displaces was IN_WORK (R25). -/
def displacedInWork (s : State) (k : StationNo) : Bool :=
  match (s.entry k).pallet with
  | some q => (s.pallet q).block == .inWork
  | none => false

/-- The tracking after a correction claim: the entry CONFIRMED with the read pallet, its record in service, the displaced one lost (R25). -/
def correctedTracking (s : State) (k : StationNo) (p : PalletNo) (arrives : Bool) : Tracking :=
  { s.tracking with
    map := s.tracking.map.set k.val { pallet := some p, status := .confirmed }
    pallets := Vector.ofFn fun q =>
      if q = p then
        { s.pallet p with
          service := .inService
          block := if displacedInWork s k then .inWork else .empty
          gauged := (s.pallet p).gauged && !arrives }
      else if (s.entry k).pallet = some q then
        { s.pallet q with service := .out, lost := true }
      else s.pallet q }

/-- One record of the table replaced, record by record. -/
theorem set_eq_ofFn (table : Vector Pallet 64) (p : PalletNo) (record : Pallet) :
    table.set p.val record = Vector.ofFn fun q => if q = p then record else table[q.val] := by
  ext q hq
  simp [Vector.getElem_set, Fin.ext_iff, eq_comm]

/-- A correction claim on an entry that holds another pallet or none (R25). -/
theorem correctEntry_eq (arrives : Bool) (h : (s.entry k).pallet ≠ some p) :
    s.correctEntry k p arrives = { s with tracking := correctedTracking s k p arrives } := by
  cases hb : (s.entry k).pallet with
  | none =>
    simp [State.correctEntry, State.setPallet, State.setEntry, hb, correctedTracking,
      displacedInWork, set_eq_ofFn, State.pallet]
  | some q =>
    have hq : q ≠ p := fun he => h (he ▸ hb)
    have hp : (s.displace q).pallet p = s.pallet p := by
      rw [State.displace, State.pallet_setPallet, if_neg hq]
    simp only [State.correctEntry, hb, hp, correctedTracking, displacedInWork]
    simp [State.setEntry, State.displace, State.setPallet, set_eq_ofFn, State.pallet]
    congr 1
    funext j
    by_cases hj : j = q
    · simp [hj]
    · simp [hj, Ne.symm hj]

/-- A correction taken: its record and its claim, then in ALIGNING the success check (R116, R122). -/
theorem takeCorrection_eq (h : (s.entry k).pallet ≠ some p) :
    s.takeCorrection r k p =
      let corrected : State :=
        { s with
          tracking := correctedTracking s k p (s.gaugeStation == some k)
          identity :=
            { s.identity with
              tag := some
                { reader := r, station := k, quality := .good, palletRead := some p,
                  entryBefore := (s.entry k).pallet, outcome := .corrected,
                  cycle := s.line.cycle } } }
      if s.line.state = .aligning then
        { corrected with identity := { corrected.identity with corrected := true } }.checkAligned
      else corrected := by
  have hclaim := correctEntry_eq (s.recordTag r k .good (some p) .corrected) k p
    (s.gaugeStation == some k) h
  rw [State.takeCorrection, hclaim]
  rfl

/-- A disagreeing good tag at a reader with authority, after its fault and flag (R116, R117). -/
theorem takeGood_authority (h : (s.entry k).pallet ≠ some p)
    (hauth : (s.descriptor k).authority = true) :
    s.takeGood r k p =
      if (s.pallet p).service = .out then
        ((s.addFault .tagMismatch).raise .tagMismatch).takeCorrection r k p
      else ((s.addFault .tagMismatch).raise .tagMismatch).takeConflict r k p := by
  rw [State.takeGood, if_neg h]
  exact if_neg (by simp [hauth])

/-- The success check reads the map and the configuration alone (R121). -/
theorem aligned_congr {t : State} (hmap : t.tracking.map = s.tracking.map)
    (hconfig : t.config = s.config) : t.aligned = s.aligned := by
  rw [Bool.eq_iff_iff, aligned_iff, aligned_iff]
  simp only [State.entry, hmap, isReaderStation_congr s hconfig]

/-- Settles O28: the conflict, or the correction and the success check that follows it in ALIGNING. -/
theorem tagWithAuthority : Obligations.TagWithAuthority := by
  intro s r k p x d hfree hk hx hidle hline hp hauth noted inWork corrected aligned
  have hcompletes : Completes (.tagGood r p x) d s
      (if (s.pallet p).service = .out then
        (((s.answered .ok).addFault .tagMismatch).raise .tagMismatch).takeCorrection r k p
      else (noted .conflict).trip .mapConflict) := by
    have h := completes_tagGood s r k p x d hfree hk hx hidle hline
    rw [takeGood_authority (s.answered .ok) r k p hp hauth] at h
    exact h
  have hcorrected : (s.pallet p).service = .out →
      Completes (.tagGood r p x) d s
        (if s.line.state = .aligning then
          { corrected with
            identity := { corrected.identity with corrected := true } }.checkAligned
        else corrected) := fun hout => by
    rw [if_pos hout, takeCorrection_eq (((s.answered .ok).addFault .tagMismatch).raise .tagMismatch) r k p hp]
      at hcompletes
    exact hcompletes
  have hsuccess (x : Identity) : ({ corrected with identity := x } : State).aligned = true ↔ aligned :=
    (Bool.eq_iff_iff.mp (aligned_congr (s.setEntry k ⟨some p, .confirmed⟩) rfl rfl)).trans
      (aligned_setEntry_confirmed s k ⟨some p, .confirmed⟩ rfl)
  refine ⟨fun hin => ?_, fun hout hl => ?_, fun hout hl hopen => ?_, fun hout hl hdone => ?_⟩
  · rwa [if_neg hin] at hcompletes
  · have h := hcorrected hout
    rwa [if_neg hl] at h
  · have h := hcorrected hout
    rw [if_pos hl, checkAligned_of_not _ fun hc => hopen ((hsuccess _).mp hc.2)] at h
    exact h
  · have h := hcorrected hout
    let marked : State :=
      { corrected with identity := { corrected.identity with corrected := true } }
    rw [if_pos hl, checkAligned_of_aligned marked ⟨hl, (hsuccess _).mpr hdone⟩] at h
    exact h

end Sys2Proof.Machine.Tags
end

section
/-! SUPPORT. The words whose written ones clear: the capture-clear word, the flag word and the drop record (R47, R70, R168, R188). -/

namespace Sys2Proof.Machine.PassThrough

variable (s : State) (w : GateWord) (lane : Fin 4) (size : Size) (data : Word)

/-- The written bits of an access to a gate control word, in their places (R160). -/
theorem laneData_lane :
    laneData (w.lane lane) size (data &&& size.mask) = (data &&& size.mask) <<< (8 * lane.val) := by
  rw [laneData, laneShift_lane, BitVec.and_assoc, BitVec.and_self]

/-- A capture whose marks are cleared where its bit is written as 1 (R47, R70). -/
def clearedIf (c : Capture) (written : Bool) : Capture :=
  { value := c.value, valid := c.valid && !written, overwritten := c.overwritten && !written }

theorem clearedIf_eq (c : Capture) (written : Bool) :
    clearedIf c written = if written = true then c.clearMarks else c := by
  cases written <;> simp [clearedIf, Capture.clearMarks]

/-- The capture-clear word, capture by capture (R47, R70). -/
theorem clearCaptures_eq (written : Word) :
    s.clearCaptures written =
      { s with
        gate := { s.gate with capture := clearedIf s.gate.capture (written.getLsbD 31) }
        monitor :=
          { s.monitor with
            stations := Vector.ofFn fun k =>
              { s.station k with
                capture := clearedIf (s.station k).capture (written.getLsbD k.val) } } } := by
  have hstation (k : StationNo) :
      (if written.getLsbD k.val = true then
        { s.station k with capture := (s.station k).capture.clearMarks }
      else s.station k) =
        { s.station k with capture := clearedIf (s.station k).capture (written.getLsbD k.val) } := by
    cases hw : written.getLsbD k.val <;> simp [clearedIf_eq]
  rw [State.clearCaptures, State.mapStations]
  simp only [hstation]
  cases written.getLsbD 31 <;> simp [clearedIf_eq]

/-- A written flag word clears the flags written as 1 (R188). -/
theorem hasFlag_clearFlags (written : Word) (f : Flag) :
    (s.clearFlags written).hasFlag f = (s.hasFlag f && !written.getLsbD f.bit) := by
  have hf := Flag.bit_lt f
  simp [State.hasFlag, State.clearFlags, hf]

/-- A written drop record clears its valid indication with bit 0 (R168). -/
theorem clearDrop_eq (written : Word) :
    s.clearDrop written =
      { s with
        classifier :=
          { s.classifier with
            drop :=
              { s.classifier.drop with
                valid := s.classifier.drop.valid && !written.getLsbD 0 } } } := by
  rw [State.clearDrop]
  cases written.getLsbD 0 <;> simp

/-- Settles O32: alignment by the lane, then the ones of each of the three words. -/
theorem writtenOnesCleared : Obligations.WrittenOnesCleared := by
  refine ⟨fun s lane size data d hfree => ?_, fun s lane size data d hfree => ?_⟩
  · intro i w cleared
    split
    case isTrue ha => exact laneWrite_misaligned s .captureClear lane size data _ rfl hfree.1 ha
    case isFalse ha =>
      have h := completes_laneWrite s .captureClear lane size data i d rfl rfl hfree
        (Decidable.not_not.mp ha) fun _ => rfl
      simp only [State.gateWordAtOk, laneData_lane, clearCaptures_eq] at h
      exact h
  · intro w
    split
    case isTrue ha =>
      exact ⟨laneWrite_misaligned s .flagWord lane size data _ rfl hfree.1 ha,
        laneWrite_misaligned s .dropRecord lane size data _ rfl hfree.1 ha⟩
    case isFalse ha =>
      have ha : lane.val % size.bytes = 0 := Decidable.not_not.mp ha
      have hflags := completes_laneWrite s .flagWord lane size data
        (.flagWordWrite lane size data) d rfl rfl hfree ha fun _ => rfl
      have hdrop := completes_laneWrite s .dropRecord lane size data
        (.dropRecordClear lane size data) d rfl rfl hfree ha fun _ => rfl
      simp only [State.gateWordAtOk, laneData_lane] at hflags hdrop
      rw [clearDrop_eq] at hdrop
      exact ⟨⟨_, hflags, hasFlag_clearFlags _ _, rfl⟩, hdrop⟩

end Sys2Proof.Machine.PassThrough
end

section
/-! SUPPORT. The memory's OK: the effect it has whatever the port held before, the answer that comes back, and the drop of a snooped write (R163, R167, R168). -/

namespace Sys2Proof.Machine.OkResponse

variable (s : State) (t : Transaction) (d : Word)

/-! ### What the OK reads of the port -/

/-- The state with another transaction, timer and answer at its port. -/
def withPort (record : Option Transaction) (τ : ResponseTimer) (reply : Reply) (s : State) : State :=
  { s with classifier := { s.classifier with record := record, timer := τ, reply := reply } }

/-- The memory's OK replaces the transaction and the answer at the port, and stops the timer there (R163). -/
theorem respondOk_withPort (record : Option Transaction) (τ : ResponseTimer) (reply : Reply) :
    State.respondOk t d (withPort record τ reply s) =
      (State.respondOk t d s).withTimer { τ with running := false } := by
  have htimer : withPort record τ reply s =
      (withPort record s.classifier.timer reply s).withTimer τ := rfl
  have hoverlay : (withPort record s.classifier.timer reply s).overlay t.offset t.size =
      s.overlay t.offset t.size := by
    unfold State.overlay State.overlayWord
    split <;> rfl
  have hsame : State.respondOk t d (withPort record s.classifier.timer reply s) =
      State.respondOk t d s := by
    unfold State.respondOk
    rw [hoverlay]
    rfl
  rw [htimer, respondOk_withTimer, hsame]

/-- The OK leaves the timer stopped where it stood (R163). -/
theorem respondOk_timer :
    State.respondOk t d s =
      (State.respondOk t d s).withTimer { s.classifier.timer with running := false } :=
  respondOk_withPort s t d s.classifier.record s.classifier.timer s.classifier.reply

/-- A transaction held without an effect at forwarding goes out into a state that differs at the port alone (R162). -/
theorem forward_held (r : Transaction) (hstale : s.classifier.stale = false)
    (ht : t = { r with stage := .forwarded })
    (hstart : ∀ k casting, r.treatment ≠ .cycleStart k casting) (hpatch : r.treatment ≠ .patch true) :
    ∃ τ, (s.holdRecord r).forward = withPort (some t) τ .none s := by
  have hplain (x : State) : r.forwardEffect x = x := by
    unfold Transaction.forwardEffect
    split
    case h_1 k casting h => exact absurd h (hstart k casting)
    case h_2 h => exact absurd h hpatch
    all_goals rfl
  cases hstage : r.stage with
  | arrived =>
    refine ⟨{ count := 0, running := true }, ?_⟩
    rw [forward_arrived (s.holdRecord r) r rfl hstage hstale, hplain, ht]
    rfl
  | forwarded =>
    have hr : r = t := by rw [ht, ← hstage]
    refine ⟨s.classifier.timer, ?_⟩
    rw [Stations.forward_of_not _ (.inr (.inr ⟨r, rfl, hstage⟩)), hr]
    rfl

/-! ### Drops -/

/-- The state after a snooped write is dropped at its OK response (R168). -/
def dropped (s : State) (o : Offset) (cause : Cause) : State :=
  { s.answered .ok with
    classifier :=
      { (s.answered .ok).classifier with
        timer := { s.classifier.timer with running := false }
        drop := { valid := true, offset := o, cause := cause, cycle := s.line.cycle } } }

theorem drop_answer (o : Offset) (cause : Cause) (ho : wordOffset o = o) :
    (s.answer .ok).drop o cause = dropped s o cause := by
  rw [State.drop, ho]
  rfl

/-- A snooped write of a word of the gate control block has that word's effect at the OK (R167). -/
theorem respondOk_snoop (w : GateWord) (hkind : t.kind = .write) (htreat : t.treatment = .snoop)
    (ho : t.offset = w.offset) :
    State.respondOk t d s = (s.answer .ok).gateWordAtOk w.offset t.size t.data w := by
  simp only [State.respondOk, hkind, htreat, State.snoopAtOk, ho, windowOf_offset]

/-- A write that is not snooped is answered OK alone (R163). -/
theorem respondOk_write (hkind : t.kind = .write) (htreat : t.treatment ≠ .snoop) :
    State.respondOk t d s = s.answer .ok := by
  cases htr : t.treatment with
  | snoop => exact absurd htr htreat
  | _ => simp only [State.respondOk, hkind, htr]

/-- A read that is not overlaid is answered with the memory's data (R163). -/
theorem respondOk_read (hkind : t.kind = .read) (htreat : t.treatment ≠ .overlay) :
    State.respondOk t d s = s.answer (.okData (d &&& t.size.mask)) := by
  cases htr : t.treatment with
  | overlay => exact absurd htr htreat
  | _ => simp only [State.respondOk, hkind, htr]

/-- Settles O23: a transaction's answer from its round trip, from its treatment, and the four drops. -/
theorem answeredOk : Obligations.AnsweredOk := by
  refine ⟨fun s u t r i d hawaits ht hstart hpatch hcarried => ?_, fun s t d hawaits => ?_,
    fun s t d cause hawaits hkind htreat => ?_⟩
  · obtain ⟨-, forwarded, hforward, hresponse⟩ := hcarried
    have hresponds := responseOk_awaits s t hawaits d
    obtain ⟨-, -, hstale⟩ := hawaits
    obtain ⟨τ, hheld⟩ := forward_held
      { s with classifier := { s.classifier with record := none } } t r hstale ht hstart hpatch
    obtain rfl : withPort (some t) τ .none s = forwarded :=
      hheld.symm.trans (Host.Outcome.next.inj hforward)
    have hstage : t.stage = .forwarded := by rw [ht]
    rw [responseOk_awaits (withPort (some t) τ .none s) t ⟨rfl, hstage, hstale⟩ d,
      respondOk_withPort] at hresponse
    rw [hresponds, ← Host.Outcome.next.inj hresponse, respondOk_timer s t d]
    rfl
  · intro answers
    have hanswers (reply : Reply) (h : State.respondOk t d s = s.answer reply) : answers reply := by
      have hx := responseOk_awaits s t hawaits d
      rw [h] at hx
      exact hx
    refine ⟨fun hkind htreat => hanswers _ ?_, fun hkind htreat => hanswers _ ?_,
      fun hkind htreat => hanswers _ ?_⟩
    · exact respondOk_write s t d hkind htreat
    · simp only [State.respondOk, hkind, htreat]
    · exact respondOk_read s t d hkind htreat
  · intro drops
    have hresponse := responseOk_awaits s t hawaits d
    refine ⟨fun c ho hc hf => ?_, fun override ho hw hf => ?_, fun ho hf => ?_, fun ho hf => ?_⟩
    · have hchecks : firstFailure ((s.answer .ok).commandChecks c) = some cause := hf
      rw [hresponse, respondOk_snoop s t d .gateCommand hkind htreat ho]
      simp only [State.gateWordAtOk, State.gateAtOk, hc, State.takeOrDrop, hchecks]
      rw [drop_answer _ _ _ (by decide)]
      rfl
    · have hchecks : firstFailure ((s.answer .ok).indexChecks override) = some cause := hf
      rw [hresponse, respondOk_snoop s t d .transfer hkind htreat ho]
      simp only [State.gateWordAtOk, State.transferAtOk, hw, hchecks]
      rw [drop_answer _ _ _ (by decide)]
      rfl
    · have hchecks : firstFailure (s.answer .ok).tagChecks = some cause := hf
      rw [hresponse, respondOk_snoop s t d .tag hkind htreat ho]
      simp only [State.gateWordAtOk, State.tagAtOk, State.takeOrDrop, hchecks]
      rw [drop_answer _ _ _ (by decide)]
      rfl
    · have hchecks : firstFailure ((s.answer .ok).headerChecks (readHeader t.data).pallet) =
          some cause := hf
      rw [hresponse, respondOk_snoop s t d .gaugeHeader hkind htreat ho]
      simp only [State.gateWordAtOk, State.headerAtOk, State.takeOrDrop, hchecks]
      rw [drop_answer _ _ _ (by decide)]
      rfl

end Sys2Proof.Machine.OkResponse
end

section
/-! SUPPORT. Entries of the configuration as a write forms them: the bytes that the entry taken shows are the bytes as formed (R177 to R180). -/

namespace Sys2Proof.Machine.ConfigWrites

open ConfigChecks

/-! ### Numbers of several bytes -/

theorem byteOf_zero {n : Nat} (h : n < 256) : byteOf n 0 = n := by
  simp only [byteOf]
  omega

theorem byteOf_half {b : Nat → Nat} (hbyte : ∀ i, b i < 256) (i : Nat) :
    byteOf (half b i) 0 = b i ∧ byteOf (half b i) 1 = b (i + 1) := by
  have hlow := hbyte i
  have hhigh := hbyte (i + 1)
  simp only [byteOf, half]
  omega

theorem byteOf_wide {b : Nat → Nat} (hbyte : ∀ i, b i < 256) (i : Nat) :
    byteOf (wide b i) 0 = b i ∧ byteOf (wide b i) 1 = b (i + 1) ∧
      byteOf (wide b i) 2 = b (i + 2) ∧ byteOf (wide b i) 3 = b (i + 3) := by
  have h0 := hbyte i
  have h1 := hbyte (i + 1)
  have h2 := hbyte (i + 2)
  have h3 := hbyte (i + 3)
  simp only [byteOf, wide, half, Nat.add_assoc, Nat.reduceAdd]
  omega

/-! ### Bytes as formed -/

section Formed

variable {old : Nat → Nat} {first : Nat} {size : Size} {w : Word}

theorem formed_lt (hold : ∀ i, old i < 256) (i : Nat) : formBytes old first size w i < 256 :=
  Settings.formBytes_lt old first size w i (hold i)

/-- What the checks ask of a touched byte, and what held of the byte before: it holds of the byte as formed (R180). -/
theorem formed_of_touched {holds : Nat → Prop} {b n at0 : Nat}
    (htouched : Touched first size at0 n → holds (formBytes old first size w b))
    (hin : at0 ≤ b ∧ b < at0 + n) (hold : holds (old b)) : holds (formBytes old first size w b) := by
  by_cases h : first ≤ b ∧ b < first + size.bytes
  · exact htouched (by constructor <;> omega)
  · rw [formBytes, if_neg h]
    exact hold

/-- A reserved byte stays zero (R180). -/
theorem formed_reserved {fields : List FieldSpec} {b : Nat}
    (htakes : entryTakes fields (formBytes old first size w) first size.bytes = true)
    (hb : Reserved fields b) (hold : old b = 0) : formBytes old first size w b = 0 :=
  formed_of_touched (holds := (· = 0))
    (fun h => ((entryTakes_iff first size fields _).mp htakes).2 b h hb) ⟨Nat.le_refl b, Nat.lt_succ_self b⟩
    hold

end Formed

/-! ### Line parameters -/

/-- Line parameters taken from bytes show those bytes (R177). -/
theorem params_byte_ofBytes {b : Nat → Nat} (hbyte : ∀ i, b i < 256) (hstations : b 0x00 < 29)
    (hvariants : b 0x02 < 7) (hreserved : ∀ i, Reserved paramFields i → b i = 0) (i : Nat) :
    (LineParams.ofBytes b).byte i = b i := by
  have hslow := byteOf_half hbyte 0x04
  have hlimit := byteOf_half hbyte 0x06
  have hwindow := byteOf_half hbyte 0x0C
  have hstep := byteOf_half hbyte 0x10
  have hoffset := byteOf_wide hbyte 0x14
  simp only [LineParams.ofBytes, leRead_two, leRead_four]
  unfold LineParams.byte
  split
  case h_1 => exact Nat.mod_eq_of_lt hstations
  case h_3 => exact Nat.mod_eq_of_lt hvariants
  case h_5 => exact hslow.1
  case h_6 => exact hslow.2
  case h_7 => exact hlimit.1
  case h_8 => exact hlimit.2
  case h_13 => exact hwindow.1
  case h_14 => exact hwindow.2
  case h_16 => exact hstep.1
  case h_17 => exact hstep.2
  case h_18 => exact hoffset.1
  case h_19 => exact hoffset.2.1
  case h_20 => exact hoffset.2.2.1
  case h_21 => exact hoffset.2.2.2
  case h_22 =>
    simp only [imp_false] at *
    exact (hreserved i (by rw [reserved_paramFields]; omega)).symm
  all_goals exact byteOf_zero (hbyte _)

/-! ### Station descriptors -/

theorem role_code_ofCode (n : Nat) (h : n ≤ 3) : (Role.ofCode n).code = n := by
  revert n
  decide

theorem mode_code_ofCode (n : Nat) (h : n ≤ 2) : (PresenceMode.ofCode n).code = n := by
  revert n
  decide

theorem reader_byte (n : Nat) (h : n ≤ 3 ∨ n = 0xFF) :
    (match (if n < 4 then some (Fin.ofNat 4 n) else none : Option ReaderNo) with
      | some r => r.val
      | none => 0xFF) = n := by
  rcases h with h | rfl
  · rw [if_pos (Nat.lt_succ_of_le h)]
    exact Nat.mod_eq_of_lt (Nat.lt_succ_of_le h)
  · rfl

theorem authority_byte (n : Nat) (h : n ≤ 1) : (decide (n = 1)).toNat = n := by
  revert n
  decide

theorem descriptor_byte_ofBytes {b : Nat → Nat} (hbyte : ∀ i, b i < 256) (hrole : b 0x00 ≤ 3)
    (hreader : b 0x01 ≤ 3 ∨ b 0x01 = 0xFF) (hauthority : b 0x02 ≤ 1) (hmode : b 0x03 ≤ 2)
    (hreserved : ∀ i, Reserved descriptorFields i → b i = 0) (i : Nat) :
    (Descriptor.ofBytes b).byte i = b i := by
  have hack := byteOf_half hbyte 0x04
  have hwarn := byteOf_half hbyte 0x06
  have hlimit := byteOf_half hbyte 0x08
  simp only [Descriptor.ofBytes, leRead_two]
  unfold Descriptor.byte
  split
  case h_1 => exact role_code_ofCode _ hrole
  case h_2 => exact reader_byte _ hreader
  case h_3 => exact authority_byte _ hauthority
  case h_4 => exact mode_code_ofCode _ hmode
  case h_5 => exact hack.1
  case h_6 => exact hack.2
  case h_7 => exact hwarn.1
  case h_8 => exact hwarn.2
  case h_9 => exact hlimit.1
  case h_10 => exact hlimit.2
  case h_11 =>
    simp only [imp_false] at *
    exact (hreserved i (by rw [reserved_descriptorFields]; omega)).symm

/-! ### Variant table entries -/

theorem variant_byte_ofBytes {b : Nat → Nat} (hbyte : ∀ i, b i < 256) (hpasses : b 0x07 < 16)
    (hreserved : ∀ i, Reserved variantFields i → b i = 0) (i : Nat) :
    (VariantEntry.ofBytes b).byte i = b i := by
  have hcode := byteOf_half hbyte 0x00
  have hwide := byteOf_wide hbyte 0x04
  have hmap : (BitVec.ofNat 28 (wide b 0x04)).toNat = wide b 0x04 :=
    Nat.mod_eq_of_lt ((operateMap_lt_iff hbyte).mpr hpasses)
  simp only [VariantEntry.ofBytes, leRead_two, leRead_four]
  unfold VariantEntry.byte
  split
  case h_1 => exact hcode.1
  case h_2 => exact hcode.2
  case h_3 => exact byteOf_zero (hbyte _)
  case h_8 =>
    simp only [imp_false] at *
    exact (hreserved i (by rw [reserved_variantFields]; omega)).symm
  all_goals rw [hmap]
  case h_4 => exact hwide.1
  case h_5 => exact hwide.2.1
  case h_6 => exact hwide.2.2.1
  case h_7 => exact hwide.2.2.2

/-! ### The entries as formed -/

variable (s : State) (first : Nat) (size : Size) (w : Word)

theorem formedParams_byte (h : s.paramsTake first size w = true) (i : Nat) :
    (s.formedParams first size w).byte i = formBytes s.config.params.byte first size w i := by
  obtain ⟨htakes, -⟩ := Bool.and_eq_true_iff.mp h
  have hold := params_byte_lt s.config.params
  obtain ⟨hstations, -, hvariants, -⟩ := (paramChecks_iff first size s (formed_lt hold)).mp h
  refine params_byte_ofBytes (formed_lt hold) ?_ ?_ (fun b hb => formed_reserved htakes hb ?_) i
  · exact formed_of_touched (holds := (· < 29)) (fun h => Nat.lt_succ_of_le (hstations h).2.1)
      (by decide) s.config.params.stationCount.isLt
  · exact formed_of_touched (holds := (· < 7)) (fun h => Nat.lt_succ_of_le (hvariants h).2.1)
      (by decide) s.config.params.variantCount.isLt
  · rw [reserved_paramFields] at hb
    unfold LineParams.byte
    split <;> omega

theorem formedDescriptor_byte (k : StationNo) (h : s.descriptorTakes k first size w = true)
    (i : Nat) :
    (s.formedDescriptor k first size w).byte i =
      formBytes (s.descriptor k).byte first size w i := by
  have hold := descriptor_byte_lt (s.descriptor k)
  obtain ⟨hrole, hreader, hauthority, hmode, -⟩ :=
    (entryTakes_descriptorFields first size (formed_lt hold)).mp h
  refine descriptor_byte_ofBytes (formed_lt hold) ?_ ?_ ?_ ?_
    (fun b hb => formed_reserved h hb ?_) i
  · exact formed_of_touched (holds := (· ≤ 3)) hrole (by decide)
      (show (s.descriptor k).role.code ≤ 3 by cases (s.descriptor k).role <;> decide)
  · refine formed_of_touched (holds := fun n => n ≤ 3 ∨ n = 0xFF) hreader (by decide) ?_
    rw [Descriptor.byte]
    cases (s.descriptor k).reader with
    | none => exact .inr rfl
    | some r => exact .inl (Nat.le_of_lt_succ r.isLt)
  · exact formed_of_touched (holds := (· ≤ 1)) hauthority (by decide) (Bool.toNat_le _)
  · exact formed_of_touched (holds := (· ≤ 2)) hmode (by decide)
      (show (s.descriptor k).mode.code ≤ 2 by cases (s.descriptor k).mode <;> decide)
  · rw [reserved_descriptorFields] at hb
    unfold Descriptor.byte
    split <;> omega

theorem formedVariant_byte (v : Fin 6) (h : s.variantTakes v first size w = true) (i : Nat) :
    (s.formedVariant v first size w).byte i = formBytes (s.variantEntry v).byte first size w i := by
  have hold := variant_byte_lt (s.variantEntry v)
  obtain ⟨-, hpasses, -⟩ := (entryTakes_variantFields first size (formed_lt hold)).mp h
  refine variant_byte_ofBytes (formed_lt hold) ?_ (fun b hb => formed_reserved h hb ?_) i
  · refine formed_of_touched (holds := (· < 16)) hpasses (by decide) ?_
    have hmap := (s.variantEntry v).passes.isLt
    simp only [VariantEntry.byte, byteOf]
    omega
  · rw [reserved_variantFields] at hb
    unfold VariantEntry.byte
    split <;> omega

end Sys2Proof.Machine.ConfigWrites
end

section
/-! SUPPORT. Writes of the configuration blocks: alignment, SETUP and the entry's checks in order, and what the part does with an entry it takes (R8, R180 to R183). -/

namespace Sys2Proof.Machine.ConfigWrites

variable (s : State) (o : Offset) (size : Size) (data : Word)

/-! ### The order of the checks -/

/-- A configuration write: its alignment, SETUP and its entry's checks in order, then the entry taken at the OK (R180). -/
theorem configWrite_decided (d : Word) (hfree : s.portsFree) (place : Place) (takes : Bool)
    (effect : State → State) (taken : Prop)
    (hd : s.decideWrite ⟨.write, o, size, data &&& size.mask⟩ =
      s.decideConfig ⟨.write, o, size, data &&& size.mask⟩ takes place)
    (hsnoop : (s.answered .ok).snoopAtOk o size (data &&& size.mask) =
      (s.answered .ok).configAtOk o takes effect)
    (htaken : takes = true →
      Completes (.configurationWrite o size data) d s (effect (s.answered .ok)) → taken) :
    if o.toNat % size.bytes ≠ 0 then
      exec (.configurationWrite o size data) s = .next (s.refusedWrite o .misaligned .none)
    else if s.line.state ≠ .setup then
      exec (.configurationWrite o size data) s = .next (s.refusedWrite o .notInState place)
    else if takes = false then
      exec (.configurationWrite o size data) s = .next (s.refusedWrite o .badConfig place)
    else taken := by
  have hrefused (cause : Cause) (place : Place) (hp : cause ≠ .patchOverflow)
      (hd : s.decide ⟨.write, o, size, data &&& size.mask⟩ = .refuse cause place) :
      exec (.configurationWrite o size data) s = .next (s.refusedWrite o cause place) :=
    Stations.write_refused s _ o size data cause place rfl hfree.1 hd hp
  split
  case isTrue ha => exact hrefused _ _ (by decide) (Stations.decide_misaligned s _ ha)
  case isFalse ha =>
    have hdecide : s.decide ⟨.write, o, size, data &&& size.mask⟩ =
        s.decideConfig ⟨.write, o, size, data &&& size.mask⟩ takes place := by
      rw [← hd, State.decide, if_neg (by simpa using ha)]
    split
    case isTrue hs =>
      exact hrefused _ _ (by decide) (hdecide.trans
        (by simp [State.decideConfig, Decision.after, firstFailure, State.lineIn, hs]))
    case isFalse hs =>
      have hs : s.line.state = .setup := Decidable.not_not.mp hs
      split
      case isTrue ht =>
        exact hrefused _ _ (by decide) (hdecide.trans
          (by simp [State.decideConfig, Decision.after, firstFailure, State.lineIn, hs, ht]))
      case isFalse ht =>
        have ht : takes = true := by simpa using ht
        have hpass : firstFailure [(s.lineIn [.setup], Cause.notInState), (takes, .badConfig)] =
            none := by
          simp [firstFailure, State.lineIn, hs, ht]
        have h := completes_snoop s (.configurationWrite o size data)
          ⟨.write, o, size, data &&& size.mask⟩ d rfl rfl hfree rfl
          (by rw [hdecide, State.decideConfig, Decision.after, hpass]; rfl)
        have heffect : (s.answered .ok).configAtOk o takes effect = effect (s.answered .ok) :=
          Patching.takeOrDrop_taken (s.answered .ok) o _ effect hpass
        rw [hsnoop, heffect] at h
        exact htaken ht h

/-! ### The windows -/

theorem windowOf_of_ofNat {window : Window} (h : windowOf (BitVec.ofNat 16 o.toNat) = window) :
    windowOf o = window := by
  rwa [BitVec.ofNat_toNat, BitVec.setWidth_eq] at h

/-! ### Line parameters taken -/

variable (p : LineParams)

theorem inLine_takeParams (k : StationNo) :
    (s.takeParams p).inLine k = decide (k.val < p.stationCount.val) := by
  rw [State.inLine, State.stationCount, State.takeParams, State.refreshEnables_config]

/-- A position keeps its entry where it is of the line before and after (R8, R181). -/
theorem entry_takeParams (k : StationNo) :
    (s.takeParams p).entry k =
      if s.inLine k = true ∧ (s.takeParams p).inLine k = true then s.entry k else .vacant := by
  have hentry : (s.takeParams p).entry k =
      if k.val < min s.config.params.stationCount.val p.stationCount.val then s.entry k
      else .vacant := by
    rw [State.entry, State.takeParams, State.refreshEnables_tracking, Vector.getElem_ofFn]
  rw [hentry, inLine_takeParams]
  refine if_congr ?_ rfl rfl
  rw [Nat.lt_min, State.inLine, State.stationCount, decide_eq_true_iff, decide_eq_true_iff]

/-- An OUT pallet's variant not below VARIANT_COUNT becomes 0 (R182). -/
theorem pallet_takeParams (q : PalletNo) :
    (s.takeParams p).pallet q =
      if (s.pallet q).service = .out ∧ p.variantCount.val ≤ (s.pallet q).variant.val then
        { s.pallet q with variant := 0 }
      else s.pallet q := by
  rw [State.pallet, State.takeParams, State.refreshEnables_tracking, Vector.getElem_ofFn]

/-- The enables are made from nothing that they change (R81). -/
theorem enablePermitted_refreshEnables (k : StationNo) :
    s.refreshEnables.enablePermitted k = s.enablePermitted k := by
  rw [State.enablePermitted, State.enablePermitted, State.inLine, State.inLine, State.stationCount,
    State.stationCount, State.indexing, State.indexing, State.refreshEnables_config,
    State.refreshEnables_line, State.refreshEnables_gate]

/-- The enables are made again with the new STATION_COUNT (R81). -/
theorem station_takeParams (k : StationNo) :
    (s.takeParams p).station k =
      { s.station k with enable := (s.takeParams p).enablePermitted k } := by
  have hrefreshed (x : State) (hx : x.station k = s.station k) :
      x.refreshEnables.station k =
        { s.station k with enable := x.refreshEnables.enablePermitted k } := by
    rw [State.station_refreshEnables, hx, enablePermitted_refreshEnables]
  rw [State.takeParams]
  refine hrefreshed _ ?_
  rw [State.station, State.station]

/-- Line parameters taken change the parameters, the map and the records, the attempts and the enables alone (R180). -/
theorem takeParams_frame :
    s.takeParams p =
      { s with
        config := { s.config with params := p }
        tracking := (s.takeParams p).tracking
        identity := { s.identity with remaining := min s.identity.remaining p.alignAttempts }
        monitor := (s.takeParams p).monitor } := by
  simp [State.takeParams, State.refreshEnables, State.mapStations]

/-- Settles O34: the three blocks, each write in the order of its checks. -/
theorem configurationWritten : Obligations.ConfigurationWritten := by
  intro s o size data d hfree i w decided
  refine ⟨fun hlow hhigh => ?_, fun k hlow hhigh => ?_, fun v hlow hhigh => ?_⟩
  · have hwindow := windowOf_of_ofNat o (windowOf_params o.toNat hlow hhigh)
    refine configWrite_decided s o size data d hfree .none _
      (State.takeParams (s.formedParams (o.toNat - 0x100) size w)) _ ?_ ?_ fun ht hc => ?_
    · simp only [State.decideWrite, hwindow]
      rfl
    · simp only [State.snoopAtOk, hwindow]
      rfl
    · generalize hformed : s.formedParams (o.toNat - 0x100) size w = p at hc
      have hparams : ((s.answered .ok).takeParams p).config.params = p := by
        rw [takeParams_frame]
      have hidentity : ((s.answered .ok).takeParams p).identity =
          { s.identity with remaining := min s.identity.remaining p.alignAttempts } := by
        rw [takeParams_frame]
        rfl
      refine ⟨_, hc, fun b => ?_, fun k => entry_takeParams _ p k, fun q => ?_, ?_, ?_,
        fun k => station_takeParams _ p k, ?_, ?_⟩
      · rw [hparams, ← hformed]
        exact formedParams_byte s _ size w ht b
      · rw [hparams]
        exact pallet_takeParams _ p q
      · simp [State.takeParams, State.answered]
      · rw [hparams, hidentity]
      · simp [State.takeParams, State.answered]
      · rw [hparams, hidentity]
        exact takeParams_frame _ p
  · have hwindow := windowOf_of_ofNat o (windowOf_descriptor o.toNat k hlow hhigh)
    have hfirst : (o.toNat - 0x200) % 32 = o.toNat - (0x200 + k.val * 32) := by omega
    refine configWrite_decided s o size data d hfree _ _
      (State.takeDescriptor k (s.formedDescriptor k (o.toNat - (0x200 + k.val * 32)) size w)) _
      ?_ ?_ fun ht hc => ⟨_, formedDescriptor_byte s _ size w k ht, hc⟩
    · simp only [State.decideWrite, hwindow, hfirst]
      rfl
    · simp only [State.snoopAtOk, hwindow, hfirst]
      rfl
  · have hwindow := windowOf_of_ofNat o (windowOf_variant o.toNat v hlow hhigh)
    have hfirst : (o.toNat - 0x600) % 16 = o.toNat - (0x600 + v.val * 16) := by omega
    refine configWrite_decided s o size data d hfree .none _
      (State.takeVariant v (s.formedVariant v (o.toNat - (0x600 + v.val * 16)) size w)) _
      ?_ ?_ fun ht hc => ⟨_, formedVariant_byte s _ size w v ht, hc⟩
    · simp only [State.decideWrite, hwindow, hfirst]
      rfl
    · simp only [State.snoopAtOk, hwindow, hfirst]
      rfl

end Sys2Proof.Machine.ConfigWrites
end

section
/-! SUPPORT. Words written with a bit that carries no field: MALFORMED (R32, R110, R131, R173). -/

namespace Sys2Proof.Machine.SpareBits

/-! ### Fields that are zero -/

/-- The bits of fields, each its first bit and its width. -/
def fieldsMask : List (Nat × Nat) → Word
  | [] => 0
  | (lo, n) :: rest => BitVec.ofNat 32 ((2 ^ n - 1) * 2 ^ lo) ||| fieldsMask rest

/-- A field that is zero leaves no bit under its mask. -/
theorem and_mask_of_bits (w : Word) (lo n : Nat) (h : bits w lo n = 0) :
    w &&& BitVec.ofNat 32 ((2 ^ n - 1) * 2 ^ lo) = 0 := by
  refine BitVec.eq_of_getLsbD_eq fun i hi => ?_
  have hbit : (BitVec.ofNat 32 ((2 ^ n - 1) * 2 ^ lo)).getLsbD i =
      (decide (lo ≤ i) && decide (i - lo < n)) := by
    rw [BitVec.getLsbD_ofNat, Nat.testBit_mul_two_pow, Nat.testBit_two_pow_sub_one]
    simp [hi]
  rw [BitVec.getLsbD_and, hbit]
  change _ = (0#32).getLsbD i
  rw [BitVec.getLsbD_zero]
  by_cases hin : lo ≤ i ∧ i - lo < n
  · have hzero : (w.toNat / 2 ^ lo % 2 ^ n).testBit (i - lo) = false := by
      rw [show w.toNat / 2 ^ lo % 2 ^ n = 0 from h, Nat.zero_testBit]
    rw [Nat.testBit_mod_two_pow, Nat.testBit_div_two_pow, Nat.sub_add_cancel hin.1,
      decide_eq_true hin.2, Bool.true_and] at hzero
    rw [BitVec.getLsbD, hzero, Bool.false_and]
  · rw [← Bool.decide_and, decide_eq_false hin, Bool.and_false]

/-- Fields that are all zero leave no bit under their mask. -/
theorem and_fieldsMask (w : Word) (fields : List (Nat × Nat))
    (h : ∀ f ∈ fields, bits w f.1 f.2 = 0) : w &&& fieldsMask fields = 0 := by
  induction fields with
  | nil => exact BitVec.and_zero
  | cons f rest ih =>
    obtain ⟨lo, n⟩ := f
    have hfirst := and_mask_of_bits w lo n (h _ List.mem_cons_self)
    have hrest := ih fun f hf => h f (List.mem_cons_of_mem _ hf)
    rw [fieldsMask, BitVec.and_or_distrib_left, hfirst, hrest]
    rfl

/-! ### The gate command word -/

/-- The bits that a command's fields use (R173; 11). -/
def usedMask : GateCommand → Word
  | .insert _ _ .queue => 0x07203F1F
  | .insert _ _ (.station _) => 0x073F3F1F
  | .remove _ | .quarantine _ | .release _ | .rejectBlock _ => 0x3F1F
  | .setVariant _ _ => 0x07003F1F
  | .confirm _ | .releaseStation _ => 0x1F001F
  | .resolveIndex _ => 0x3000001F
  | .openSetup | .closeSetup | .beginAlign | .stop | .trip | .hold | .resume => 0x1F

theorem spare_of_mask {w mask : Word} (fields : List (Nat × Nat))
    (hmask : ~~~mask = fieldsMask fields) (h : ∀ f ∈ fields, bits w f.1 f.2 = 0) :
    w &&& ~~~mask = 0 := by
  rw [hmask]
  exact and_fieldsMask w fields h

/-- A word whose fields are a command's, its spare bits zero, has no bit but those the command uses (R173). -/
theorem spare_of_fields (w : Word) (c : GateCommand) (hf : gateFields w = c.fields)
    (hz : gateSpareZero w = true) : w &&& ~~~usedMask c = 0 := by
  obtain ⟨⟨⟨⟨h5, h14⟩, h22⟩, h27⟩, h30⟩ : (((bits w 5 3 = 0 ∧ bits w 14 2 = 0) ∧
      bits w 22 2 = 0) ∧ bits w 27 1 = 0) ∧ bits w 30 2 = 0 := by
    simpa only [gateSpareZero, Bool.and_eq_true, decide_eq_true_eq] using hz
  cases c with
  | insert p v dest =>
    cases dest with
    | queue =>
      simp only [gateFields, GateCommand.fields, GateFields.ofCode, GateFields.mk.injEq] at hf
      exact spare_of_mask [(5, 3), (14, 2), (16, 5), (22, 2), (27, 1), (28, 2), (30, 2)]
        (by rw [usedMask]; decide) (by simp [*])
    | station k =>
      simp only [gateFields, GateCommand.fields, GateFields.ofCode, GateFields.mk.injEq] at hf
      exact spare_of_mask [(5, 3), (14, 2), (22, 2), (27, 1), (28, 2), (30, 2)] (by rw [usedMask]; decide)
        (by simp [*])
  | remove p | quarantine p | release p | rejectBlock p =>
    simp only [gateFields, GateCommand.fields, GateFields.ofCode, GateFields.mk.injEq] at hf
    exact spare_of_mask
      [(5, 3), (14, 2), (16, 5), (21, 1), (22, 2), (24, 3), (27, 1), (28, 2), (30, 2)] (by rw [usedMask]; decide)
      (by simp [*])
  | setVariant p v =>
    simp only [gateFields, GateCommand.fields, GateFields.ofCode, GateFields.mk.injEq] at hf
    exact spare_of_mask [(5, 3), (14, 2), (16, 5), (21, 1), (22, 2), (27, 1), (28, 2), (30, 2)]
      (by rw [usedMask]; decide) (by simp [*])
  | confirm k | releaseStation k =>
    simp only [gateFields, GateCommand.fields, GateFields.ofCode, GateFields.mk.injEq] at hf
    exact spare_of_mask [(5, 3), (8, 6), (14, 2), (21, 1), (22, 2), (24, 3), (27, 1), (28, 2), (30, 2)]
      (by rw [usedMask]; decide) (by simp [*])
  | resolveIndex o =>
    simp only [gateFields, GateCommand.fields, GateFields.ofCode, GateFields.mk.injEq] at hf
    exact spare_of_mask [(5, 3), (8, 6), (14, 2), (16, 5), (21, 1), (22, 2), (24, 3), (27, 1), (30, 2)]
      (by rw [usedMask]; decide) (by simp [*])
  | openSetup | closeSetup | beginAlign | stop | trip | hold | resume =>
    simp only [gateFields, GateCommand.fields, GateFields.ofCode, GateFields.mk.injEq] at hf
    exact spare_of_mask
      [(5, 3), (8, 6), (14, 2), (16, 5), (21, 1), (22, 2), (24, 3), (27, 1), (28, 2), (30, 2)]
      (by rw [usedMask]; decide) (by simp [*])

/-- A command's word with a bit that the command does not use is MALFORMED (R173, 3). -/
theorem readGateCommand_malformed (w : Word) (c : GateCommand)
    (hc : (gateFields w).command = some c) (h : w &&& ~~~usedMask c ≠ 0) :
    readGateCommand w = .error .malformed := by
  have hnot : ¬(gateSpareZero w && c.fields = gateFields w) = true := fun hok => by
    obtain ⟨hz, hf⟩ := Bool.and_eq_true_iff.mp hok
    exact h (spare_of_fields w c (of_decide_eq_true hf).symm hz)
  simp only [readGateCommand, hc, hnot]
  rfl

/-- A code that names no command (R173, 2; 11). -/
theorem command_eq_none (f : GateFields)
    (h : f.code ∉ [1, 2, 3, 4, 5, 8, 9, 10, 11, 12, 13, 14, 16, 20, 21, 22]) : f.command = none := by
  unfold GateFields.command
  split
  case h_17 => rfl
  all_goals exact absurd h (by simp [*])

/-- A code that names a command (R173, 2; 11). -/
theorem isSome_command (f : GateFields)
    (h : f.code ∈ [1, 2, 3, 4, 5, 8, 9, 10, 11, 12, 13, 14, 16, 20, 21, 22]) :
    ∃ c, f.command = some c := by
  unfold GateFields.command
  split
  case h_17 =>
    simp only [imp_false] at *
    simp [*] at h
  all_goals exact ⟨_, rfl⟩

/-! ### The transfer word, the tag word and the gauge header word -/

theorem readTransfer_malformed (w : Word) (h : w &&& ~~~0x101 ≠ 0) : readTransfer w = none :=
  Stations.readCycleStart_eq_none w h

theorem tag_malformed (w : Word) (h : w &&& ~~~0x3F3F13 ≠ 0) :
    ¬(tagSpareZero w && decide ((readTag w).quality ≤ 1)) = true := fun hok => h <| by
  obtain ⟨hz, hq⟩ := Bool.and_eq_true_iff.mp hok
  obtain ⟨⟨⟨h2, h6⟩, h14⟩, h22⟩ : ((bits w 2 2 = 0 ∧ bits w 6 2 = 0) ∧ bits w 14 2 = 0) ∧
      bits w 22 10 = 0 := by
    simpa only [tagSpareZero, Bool.and_eq_true, decide_eq_true_eq] using hz
  have hquality : bits w 4 2 ≤ 1 := of_decide_eq_true hq
  have h5 : bits w 5 1 = 0 := by
    simp only [bits] at hquality ⊢
    omega
  exact spare_of_mask [(2, 2), (5, 1), (6, 2), (14, 2), (22, 10)] (by decide) (by simp [*])

theorem header_malformed (w : Word) (h : w &&& ~~~0x13F ≠ 0) :
    ¬(headerSpareZero w && decide ((readHeader w).status ≤ 1)) = true := fun hok => h <| by
  obtain ⟨hz, hs⟩ := Bool.and_eq_true_iff.mp hok
  obtain ⟨h6, h10⟩ : bits w 6 2 = 0 ∧ bits w 10 22 = 0 := by
    simpa only [headerSpareZero, Bool.and_eq_true, decide_eq_true_eq] using hz
  have hstatus : bits w 8 2 ≤ 1 := of_decide_eq_true hs
  have h9 : bits w 9 1 = 0 := by
    simp only [bits] at hstatus ⊢
    omega
  exact spare_of_mask [(6, 2), (9, 1), (10, 22)] (by decide) (by simp [*])

end Sys2Proof.Machine.SpareBits
end

section
/-! SUPPORT. The accesses that reach no command and no record: outside the line image, misaligned, passed, read-only, short and malformed (R157 to R160, R173). -/

namespace Sys2Proof.Machine.OtherWords

variable (s : State) (o : Offset) (size : Size) (data w : Word)

/-! ### The gate command word -/

/-- The bits that the fields of a word's code use (R173; 11). -/
def usedBits (w : Word) : Word :=
  let code := w.toNat % 32
  if code = 8 then (if w.getLsbD 21 = true then 0x073F3F1F else 0x07203F1F)
  else if code = 9 ∨ code = 11 ∨ code = 12 ∨ code = 13 then 0x3F1F
  else if code = 10 then 0x07003F1F
  else if code = 14 ∨ code = 22 then 0x1F001F
  else if code = 16 then 0x3000001F
  else 0x1F

theorem code_eq : (gateFields w).code = w.toNat % 32 := by
  simp [gateFields, bits]

theorem dest_eq_zero : (gateFields w).dest = 0 ↔ w.getLsbD 21 = false := by
  simp [gateFields, bits, BitVec.getLsbD, Nat.testBit_eq_decide_div_mod_eq]

theorem usedMask_of_command (c : GateCommand) (hc : (gateFields w).command = some c) :
    SpareBits.usedMask c = usedBits w := by
  unfold GateFields.command at hc
  unfold usedBits
  rw [← code_eq]
  split at hc
  case h_6 hcode =>
    cases hc
    rw [hcode]
    by_cases hd : (gateFields w).dest = 0
    · rw [if_pos hd, (dest_eq_zero w).mp hd]
      rfl
    · rw [if_neg hd, eq_true_of_ne_false fun hf => hd ((dest_eq_zero w).mpr hf)]
      rfl
  case h_17 => cases hc
  all_goals
    cases hc
    simp [*, SpareBits.usedMask]

/-! ### What the part decides by window -/

theorem decide_alignedWrite (ha : o.toNat % size.bytes = 0) :
    s.decide ⟨.write, o, size, w⟩ = s.decideWrite ⟨.write, o, size, w⟩ :=
  if_neg (by simpa using ha)

theorem decide_alignedRead (ha : o.toNat % size.bytes = 0) :
    s.decide ⟨.read, o, size, w⟩ = s.decideRead ⟨.read, o, size, w⟩ :=
  if_neg (by simpa using ha)

theorem windowOf_gate (h : o.toNat < 0x100) : windowOf o = .gate (gateWordAt (o.toNat / 4)) :=
  if_pos h

theorem gateWordAt_other (n : Nat) (h : n = 0x0B ∨ 0x15 ≤ n) : gateWordAt n = .other := by
  unfold gateWordAt
  split
  case h_21 => rfl
  all_goals omega

/-- The offsets between and beyond the windows are passed both ways (R158). -/
theorem windowOf_passed (h : (0x580 ≤ o.toNat ∧ o.toNat < 0x600) ∨
      (0x660 ≤ o.toNat ∧ o.toNat < 0x700) ∨ (0x7C0 ≤ o.toNat ∧ o.toNat < 0x800) ∨
      (0x11E0 ≤ o.toNat ∧ o.toNat < 0x2000) ∨ (0x3C00 ≤ o.toNat ∧ o.toNat < 0x4000) ∨
      0x5D00 ≤ o.toNat) : windowOf o = .passed := by
  unfold windowOf
  rcases h with h | h | h | h | h | h
  case inr.inr.inr.inr.inr => 
    repeat rw [if_neg (by omega)]
  all_goals
    repeat rw [if_neg (by omega)]
    rw [if_pos (by omega)]

/-- The view windows (R158). -/
theorem windowOf_view (h : 0x800 ≤ o.toNat) (h' : o.toNat < 0x11E0) :
    windowOf o = .palletView ∨ windowOf o = .mapView ∨ windowOf o = .captureView := by
  have hwindow (x : Window) (hx : windowOf (BitVec.ofNat 16 o.toNat) = x) : windowOf o = x :=
    ConfigWrites.windowOf_of_ofNat o hx
  by_cases hp : o.toNat < 0x1000
  · exact .inl (hwindow _ (windowOf_palletView o.toNat h hp))
  · by_cases hm : o.toNat < 0x1100
    · exact .inr (.inl (hwindow _ (windowOf_mapView o.toNat (by omega) hm)))
    · exact .inr (.inr (hwindow _ (windowOf_captureView o.toNat (by omega) h')))

/-- A write of a word that the host only reads is refused READ_ONLY (R160, R169). -/
theorem decideWrite_readOnly (h : o.toNat < 0x0C ∨ (0x14 ≤ o.toNat ∧ o.toNat < 0x20) ∨
      (0x24 ≤ o.toNat ∧ o.toNat < 0x2C) ∨ (0x800 ≤ o.toNat ∧ o.toNat < 0x11E0)) :
    s.decideWrite ⟨.write, o, size, w⟩ = .refuse .readOnly .none := by
  by_cases hv : 0x800 ≤ o.toNat
  · have hview := windowOf_view o hv (by omega)
    unfold State.decideWrite
    rcases hview with hw | hw | hw <;> simp only [hw]
  · have hn : o.toNat / 4 ∈ [0, 1, 2, 5, 6, 7, 9, 10] := by
      simp only [List.mem_cons, List.not_mem_nil]
      omega
    have hword : ∀ n ∈ [0, 1, 2, 5, 6, 7, 9, 10],
        s.decideGateWrite ⟨.write, o, size, w⟩ (gateWordAt n) = .refuse .readOnly .none := by
      intro n hn
      simp only [List.mem_cons, List.not_mem_nil, or_false] at hn
      rcases hn with rfl | rfl | rfl | rfl | rfl | rfl | rfl | rfl <;> rfl
    simp only [State.decideWrite, windowOf_gate o (by omega)]
    exact hword _ hn

/-- An access to a word of no window is passed (R158, R160). -/
theorem decide_passed (q : Request) (h : (0x2C ≤ q.offset.toNat ∧ q.offset.toNat < 0x30) ∨
      (0x54 ≤ q.offset.toNat ∧ q.offset.toNat < 0x100) ∨
      (0x580 ≤ q.offset.toNat ∧ q.offset.toNat < 0x600) ∨
      (0x660 ≤ q.offset.toNat ∧ q.offset.toNat < 0x700) ∨
      (0x7C0 ≤ q.offset.toNat ∧ q.offset.toNat < 0x800) ∨
      (0x11E0 ≤ q.offset.toNat ∧ q.offset.toNat < 0x2000) ∨
      (0x3C00 ≤ q.offset.toNat ∧ q.offset.toNat < 0x4000) ∨ 0x5D00 ≤ q.offset.toNat) :
    s.decideWrite q = .forward .pass q.offset q.data ∧
      s.decideRead q = .forward .pass q.offset q.data := by
  unfold State.decideWrite State.decideRead
  by_cases hg : q.offset.toNat < 0x100
  · simp only [windowOf_gate q.offset hg, gateWordAt_other (q.offset.toNat / 4) (by omega)]
    exact ⟨rfl, rfl⟩
  · simp only [windowOf_passed q.offset (by omega)]
    exact ⟨rfl, rfl⟩

/-- A read of a word that the host only writes is passed (R160). -/
theorem decideRead_written (h : 0x30 ≤ o.toNat) (h' : o.toNat < 0x54) :
    s.decideRead ⟨.read, o, size, w⟩ = .forward .pass o w := by
  have hn : o.toNat / 4 ∈ [12, 13, 14, 15, 16, 17, 18, 19, 20] := by
    simp only [List.mem_cons, List.not_mem_nil]
    omega
  have hword : ∀ n ∈ [12, 13, 14, 15, 16, 17, 18, 19, 20],
      decideGateRead ⟨.read, o, size, w⟩ (gateWordAt n) = .forward .pass o w := by
    intro n hn
    simp only [List.mem_cons, List.not_mem_nil, or_false] at hn
    rcases hn with rfl | rfl | rfl | rfl | rfl | rfl | rfl | rfl | rfl <;> rfl
  simp only [State.decideRead, windowOf_gate o (by omega)]
  exact hword _ hn

/-- A short write of a word that is taken whole is MALFORMED (R32, R110, R130, R131, R173). -/
theorem decideWrite_short (hsize : size ≠ .four)
    (h : (0x30 ≤ o.toNat ∧ o.toNat < 0x3C) ∨ (0x44 ≤ o.toNat ∧ o.toNat < 0x54)) :
    s.decideWrite ⟨.write, o, size, w⟩ = .refuse .malformed .none := by
  have hn : o.toNat / 4 ∈ [12, 13, 14, 17, 18, 19, 20] := by
    simp only [List.mem_cons, List.not_mem_nil]
    omega
  have hshort : (size != .four) = true := bne_iff_ne.mpr hsize
  have hword : ∀ n ∈ [12, 13, 14, 17, 18, 19, 20],
      s.decideGateWrite ⟨.write, o, size, w⟩ (gateWordAt n) = .refuse .malformed .none := by
    intro n hn
    simp only [List.mem_cons, List.not_mem_nil, or_false] at hn
    rcases hn with rfl | rfl | rfl | rfl | rfl | rfl | rfl <;> exact if_pos hshort
  simp only [State.decideWrite, windowOf_gate o (by omega)]
  exact hword _ hn

/-! ### Words written whole -/

theorem decide_word (g : GateWord) :
    s.decide ⟨.write, g.offset, .four, w⟩ = s.decideGateWrite ⟨.write, g.offset, .four, w⟩ g := by
  simp [State.decide, State.decideWrite, windowOf_offset, GateWord.offset_aligned, Size.bytes]

/-- The codes that name a command (11). -/
def commandCodes : List Nat := [1, 2, 3, 4, 5, 8, 9, 10, 11, 12, 13, 14, 16, 20, 21, 22]

/-- A gate command word with a code that names no command (R173, 2). -/
theorem decide_unknownCommand (h : w.toNat % 32 ∉ commandCodes) :
    s.decide ⟨.write, GateWord.gateCommand.offset, .four, w⟩ = .refuse .unknownCommand .none := by
  have hnone := SpareBits.command_eq_none (gateFields w) (by rwa [code_eq])
  simp [decide_word, State.decideGateWrite, State.decideGate, readGateCommand, hnone]

/-- A gate command word with a bit that its command does not use (R173, 3). -/
theorem decide_malformedCommand (hcode : w.toNat % 32 ∈ commandCodes)
    (h : w &&& ~~~usedBits w ≠ 0) :
    s.decide ⟨.write, GateWord.gateCommand.offset, .four, w⟩ = .refuse .malformed .none := by
  obtain ⟨c, hc⟩ := SpareBits.isSome_command (gateFields w) (by rwa [code_eq])
  rw [← usedMask_of_command w c hc] at h
  simp [decide_word, State.decideGateWrite, State.decideGate,
    SpareBits.readGateCommand_malformed w c hc h]

theorem decide_malformedTransfer (h : w &&& ~~~0x101 ≠ 0) :
    s.decide ⟨.write, GateWord.transfer.offset, .four, w⟩ = .refuse .malformed .none := by
  simp [decide_word, State.decideGateWrite, State.decideTransfer,
    SpareBits.readTransfer_malformed w h]

/-- A tag word with a reserved bit, or a quality beyond NO_READ: its reader is not examined (R110, R111; log 15). -/
theorem decide_malformedTag (h : w &&& ~~~0x3F3F13 ≠ 0) :
    s.decide ⟨.write, GateWord.tag.offset, .four, w⟩ =
      .refuse .malformed
        ⟨none, if (readTag w).goodMatched then some (readTag w).pallet else none⟩ := by
  have hnot := SpareBits.tag_malformed w h
  have hfails : firstFailure (Tags.arrivalChecks s w) = some .malformed := by
    cases hz : tagSpareZero w with
    | false => simp [Tags.arrivalChecks, State.tagFormat, firstFailure, hz]
    | true =>
      have hq : ¬(readTag w).quality ≤ 1 := fun hq => hnot (by rw [hz, decide_eq_true hq]; rfl)
      simp [Tags.arrivalChecks, State.tagFormat, firstFailure, hz, hq]
  have hplace : s.tagPlace w =
      ⟨none, if (readTag w).goodMatched then some (readTag w).pallet else none⟩ := by
    rw [State.tagPlace, if_neg hnot]
  rw [Tags.decide_tag, Decision.after, hfails, hplace]

/-- A gauge header word with a reserved bit, or a status beyond PROBE_FAIL (R131). -/
theorem decide_malformedHeader (h : w &&& ~~~0x13F ≠ 0) :
    s.decide ⟨.write, GateWord.gaugeHeader.offset, .four, w⟩ =
      .refuse .malformed ⟨none, some (readHeader w).pallet⟩ := by
  have hnot := SpareBits.header_malformed w h
  simp only [decide_word, State.decideGateWrite, State.decideHeader, hnot]
  rfl

/-! ### What each command puts on the bus -/

/-- The access on the bus, made by the host command that writes or reads an address (R157). -/
def execOnBus (s : State) (q : BusAccess) : Host.Outcome State Fault Refusal :=
  match q.kind with
  | .write => exec (.hostWriteOther q.address q.size q.data) s
  | .read => exec (.hostRead q.address q.size) s

/-- The bits beyond a write's bytes reach no one (00). -/
theorem hostWriteAddress_mask (a : Address) :
    s.hostWriteAddress a size (data &&& size.mask) = s.hostWriteAddress a size data := by
  simp only [State.hostWriteAddress, State.hostWrite, BitVec.and_assoc, BitVec.and_self]

theorem execOnBus_write : execOnBus s (s.busWrite o size data) = s.hostWrite o size data :=
  (hostWriteAddress_mask s size data (s.addressOf o)).trans
    (hostWriteAddress_addressOf s o size data)

theorem execOnBus_access (access : Access) :
    execOnBus s (s.busAccess o access) = s.hostAccess o access := by
  cases access with
  | read size => exact hostReadAddress_addressOf s o size
  | write size data => exact execOnBus_write s o size data

theorem exec_of_write {i : Instr} {q : BusAccess} (hp : s.presents i = some q)
    (hwrite : s.presents i = some (s.busWrite o size data))
    (hx : exec i s = s.hostWrite o size data) : exec i s = execOnBus s q := by
  obtain rfl := Option.some.inj (hwrite.symm.trans hp)
  rw [hx, execOnBus_write]

/-- A gate command is the write of its word (R173). -/
theorem exec_of_command (c : GateCommand) {q : BusAccess} (hp : s.presents c.instr = some q) :
    exec c.instr s = execOnBus s q :=
  exec_of_write s _ _ _ hp (presents_instr s c) (exec_instr s c)

/-- A host command is the access that it puts on the bus (R157, R159). -/
theorem exec_of_presents (i : Instr) (q : BusAccess) (hp : s.presents i = some q) :
    exec i s = execOnBus s q := by
  cases i with
  | openSetup => exact exec_of_command s .openSetup hp
  | closeSetup => exact exec_of_command s .closeSetup hp
  | beginAlign => exact exec_of_command s .beginAlign hp
  | stop => exact exec_of_command s .stop hp
  | trip => exact exec_of_command s .trip hp
  | insert p v dest => exact exec_of_command s (.insert p v dest) hp
  | remove p => exact exec_of_command s (.remove p) hp
  | setVariant p v => exact exec_of_command s (.setVariant p v) hp
  | quarantine p => exact exec_of_command s (.quarantine p) hp
  | release p => exact exec_of_command s (.release p) hp
  | rejectBlock p => exact exec_of_command s (.rejectBlock p) hp
  | confirm k => exact exec_of_command s (.confirm k) hp
  | resolveIndex outcome => exact exec_of_command s (.resolveIndex outcome) hp
  | hold => exact exec_of_command s .hold hp
  | resume => exact exec_of_command s .resume hp
  | releaseStation k => exact exec_of_command s (.releaseStation k) hp
  | index option | transferNone option | start k option | cycleStartNone k option =>
    exact exec_of_write s _ .four _ hp (by cases option <;> rfl) rfl
  | tagGood r p x => exact exec_of_write s _ _ _ hp (Tags.presents_tagGood s r p x) rfl
  | tagNoRead r p x => exact exec_of_write s _ _ _ hp (Tags.presents_tagNoRead s r p x) rfl
  | gaugeDataWrite axis value => cases axis <;> exact exec_of_write s _ _ _ hp rfl rfl
  | gaugeHeaderValid p =>
    exact exec_of_write s _ _ _ hp (by rw [headerWord, Nat.zero_mul, Nat.add_zero]; rfl) rfl
  | gaugeHeaderProbeFail p =>
    exact exec_of_write s _ _ _ hp (by rw [headerWord, Nat.one_mul]; rfl) rfl
  | captureClearWrite lane size data | viewSelectorWrite lane size data
  | flagWordWrite lane size data | flagEnableWrite lane size data
  | dropRecordClear lane size data =>
    exact exec_of_write s _ _ _ hp rfl rfl
  | configurationWrite o size data | patchRuleWrite o size data =>
    exact exec_of_write s _ _ _ hp rfl rfl
  | patchedWrite k n lane size data => exact exec_of_write s _ _ _ hp rfl rfl
  | stationViewAccess k o access =>
    obtain rfl := Option.some.inj hp
    exact (execOnBus_access s _ access).symm
  | rovingViewAccess o access =>
    obtain rfl := Option.some.inj hp
    exact (execOnBus_access s _ access).symm
  | hostWriteOther a size data =>
    obtain rfl := Option.some.inj hp
    exact (hostWriteAddress_mask s size data a).symm
  | hostRead a size =>
    obtain rfl := Option.some.inj hp
    rfl
  | _ => cases hp

end Sys2Proof.Machine.OtherWords
end

section
/-! SUPPORT. The other accesses of the host, put together: what goes out, what comes back and what is refused (R157 to R160, R173). -/

namespace Sys2Proof.Machine.OtherWords

/-- Settles O40: outside the line image, then by alignment and window, then the words with a spare bit. -/
theorem otherAccesses : Obligations.OtherAccesses := by
  intro s size data d hfree w named write read passes goesOut comesBack refused
  have hrefused (o : Offset) (cause : Cause) (place : Place) (hp : cause ≠ .patchOverflow)
      (hd : s.decide ⟨.write, o, size, w⟩ = .refuse cause place) : refused o cause place :=
    Stations.write_refused s (write o) o size data cause place
      (hostWriteAddress_addressOf s o size data) hfree.1 hd hp
  have hgoes (o : Offset) (hd : s.decide ⟨.write, o, size, w⟩ = .forward .pass o w) :
      goesOut (s.addressOf o) false :=
    carriedOut_pass s (write o) ⟨.write, o, size, w⟩ d (hostWriteAddress_addressOf s o size data)
      hfree rfl hd
  have hcomes (o : Offset) (hd : s.decide ⟨.read, o, size, 0⟩ = .forward .pass o 0) :
      comesBack (s.addressOf o) false :=
    carriedOut_read s (read o) ⟨.read, o, size, 0⟩ .pass o d (hostReadAddress_addressOf s o size)
      hfree rfl (.inl rfl) hd
  refine ⟨fun a ha => ⟨?_, ?_⟩, fun o ha => ⟨?_, ?_⟩, fun o ha => ⟨fun h => ?_, fun h => ⟨?_, ?_⟩,
    fun hlow hhigh => ?_, fun hsize h => ?_⟩, fun hsize => ⟨?_, fun h => ?_, fun h => ?_, fun h => ?_⟩,
    exec_of_presents s⟩
  · have hx : exec (.hostWriteOther a size data) s =
        s.ifPortFree (s.arriveOutside .write a size w) := if_neg (by simp [ha])
    exact carriedOut_outside s _ .write a size w d hx hfree
  · have hx : exec (.hostRead a size) s = s.ifPortFree (s.arriveOutside .read a size 0) :=
      if_neg (by simp [ha])
    exact carriedOut_outside s _ .read a size 0 d hx hfree
  · exact hrefused o _ _ (by decide) (Stations.decide_misaligned s _ ha)
  · exact Stations.read_refused s (read o) o size _ _ (hostReadAddress_addressOf s o size) hfree.1
      (Stations.decide_misaligned s _ ha) (by decide)
  · exact hrefused o _ _ (by decide)
      ((decide_alignedWrite s o size w ha).trans (decideWrite_readOnly s o size w h))
  · exact hgoes o ((decide_alignedWrite s o size w ha).trans (decide_passed s ⟨.write, o, size, w⟩ h).1)
  · exact hcomes o ((decide_alignedRead s o size 0 ha).trans (decide_passed s ⟨.read, o, size, 0⟩ h).2)
  · exact hcomes o ((decide_alignedRead s o size 0 ha).trans (decideRead_written s o size 0 hlow hhigh))
  · exact hrefused o _ _ (by decide)
      ((decide_alignedWrite s o size w ha).trans (decideWrite_short s o size w hsize h))
  · subst hsize
    have hw : w = data := four_mask data
    intro code used
    split
    case isTrue hcode =>
      exact hrefused _ _ _ (by decide) (by rw [hw]; exact decide_unknownCommand s data hcode)
    case isFalse hcode =>
      intro h
      exact hrefused _ _ _ (by decide)
        (by rw [hw]; exact decide_malformedCommand s data (not_not.mp hcode) h)
  · subst hsize
    have hw : w = data := four_mask data
    exact hrefused _ _ _ (by decide) (by rw [hw]; exact decide_malformedTransfer s data h)
  · subst hsize
    have hw : w = data := four_mask data
    refine hrefused _ _ _ (by decide) ?_
    rw [hw]
    have hpallet : (readTag data).pallet = named := Fin.ext (by simp [readTag, bits, named])
    have hmatched : (readTag data).goodMatched = true ↔
        data.toNat / 0x10 % 4 = 0 ∧ data.toNat / 0x10000 % 64 = 63 - named.val := by
      simp [TagWord.goodMatched, readTag, bits, named]
    refine (decide_malformedTag s data h).trans ?_
    simp only [hpallet, hmatched]
  · subst hsize
    have hw : w = data := four_mask data
    refine hrefused _ _ _ (by decide) ?_
    rw [hw]
    have hpallet : (readHeader data).pallet = ⟨data.toNat % 64, by omega⟩ :=
      Fin.ext (by simp [readHeader, bits])
    refine (decide_malformedHeader s data h).trans ?_
    rw [hpallet]

end Sys2Proof.Machine.OtherWords
end

section
/-! SUPPORT. Reads of the overlaid words: the word a read shows is the part's own, and a word packed from fields is their sum (R169, R170). -/

namespace Sys2Proof.Machine.OverlayReads

/-! ### Packed words -/

/-- The fields of a packed word, added up. -/
def packSum : List (Nat × Nat × Nat) → Nat
  | [] => 0
  | (lo, width, value) :: rest => value % 2 ^ width * 2 ^ lo + packSum rest

/-- The fields lie one above the other, none below a bit. -/
def Ascending : Nat → List (Nat × Nat × Nat) → Prop
  | _, [] => True
  | bound, (lo, width, _) :: rest => bound ≤ lo ∧ Ascending (lo + width) rest

theorem dvd_packSum {bound : Nat} {fields : List (Nat × Nat × Nat)} (h : Ascending bound fields) :
    2 ^ bound ∣ packSum fields := by
  induction fields generalizing bound with
  | nil => exact Nat.dvd_zero _
  | cons f rest ih =>
    obtain ⟨lo, width, value⟩ := f
    obtain ⟨hlo, hrest⟩ := h
    have hfirst : 2 ^ bound ∣ value % 2 ^ width * 2 ^ lo :=
      Nat.dvd_mul_left_of_dvd (Nat.pow_dvd_pow 2 hlo) _
    have hbeyond : 2 ^ bound ∣ packSum rest :=
      Nat.dvd_trans (Nat.pow_dvd_pow 2 (Nat.le_trans hlo (Nat.le_add_right lo width))) (ih hrest)
    exact Nat.dvd_add hfirst hbeyond

/-- A word packed from fields one above the other is their sum (11). -/
theorem pack_eq_packSum {bound : Nat} (fields : List (Nat × Nat × Nat)) (h : Ascending bound fields) :
    pack fields = BitVec.ofNat 32 (packSum fields) := by
  induction fields generalizing bound with
  | nil => rfl
  | cons f rest ih =>
    obtain ⟨lo, width, value⟩ := f
    obtain ⟨n, hn⟩ := dvd_packSum h.2
    have hrest : pack rest = BitVec.ofNat 32 (n * 2 ^ (lo + width)) := by
      rw [ih h.2, hn, Nat.mul_comm]
    rw [pack_cons lo width value n rest hrest, packSum, hn, Nat.mul_comm n]

/-- A word of four bytes is a packed word whose fields add up to them. -/
theorem wordOfBytes_eq_pack (b : Nat → Nat) (first : Nat) (fields : List (Nat × Nat × Nat))
    (hfields : Ascending 0 fields)
    (h : b first + b (first + 1) * 0x100 + b (first + 2) * 0x10000 + b (first + 3) * 0x1000000 =
      packSum fields) : wordOfBytes b first = pack fields := by
  rw [wordOfBytes_eq, h, pack_eq_packSum fields hfields]

/-! ### Reads of overlaid words -/

variable (s : State) (d : Word)

/-- A read at any lane of the word at an offset shows that word's bytes (R169, R170). -/
def Shows (s : State) (d : Word) (base : Nat) (v : Word) : Prop :=
  ∀ (lane : Fin 4) (size : Size), lane.val % size.bytes = 0 →
    let a : Address := s.addressOf (BitVec.ofNat 16 (base + lane.val))
    CarriedOut (.hostRead a size)
      { kind := .read, address := a, outside := false, size := size, data := 0
        treatment := .overlay, target := a, sent := 0, decidedCause := none, stage := .arrived }
      d s (s.answered (.okData ((v >>> (8 * lane.val)) &&& size.mask)))

/-- A window whose words the part shows (R169). -/
def overlaid : Window → Bool
  | .gate w => decide (w.number < 0x0B)
  | .params | .descriptor _ | .variant _ | .rule _ | .palletView | .mapView | .captureView => true
  | .command _ | .stationView _ | .rovingView | .passed => false

theorem decideRead_overlaid (q : Request) (h : overlaid (windowOf q.offset) = true) :
    s.decideRead q = .forward .overlay q.offset q.data := by
  unfold State.decideRead
  cases hw : windowOf q.offset with
  | gate g =>
    rw [hw] at h
    cases g with
    | gaugeData axis => cases axis <;> cases h
    | status0 | status1 | faultSets | flagWord | flagEnable | report0 | report1 | refusalCount
    | dropRecord | indexCapture | lastTag => rfl
    | _ => cases h
  | params | descriptor | variant | rule | palletView | mapView | captureView => rfl
  | command | stationView | rovingView | passed => rw [hw] at h; cases h

/-- A word of an overlaid window is shown as the part has it (R169, R170). -/
theorem shows_of_overlayWord (hfree : s.portsFree) (base : Nat) (v : Word) (hb : base % 4 = 0)
    (hword : ∀ lane : Fin 4, overlaid (windowOf (BitVec.ofNat 16 (base + lane.val))) = true ∧
      s.overlayWord (BitVec.ofNat 16 (base + lane.val)) = v) : Shows s d base v := by
  intro lane size ha a
  obtain ⟨hwindow, hvalue⟩ := hword lane
  have hlane := lane.isLt
  have haligned : (BitVec.ofNat 16 (base + lane.val)).toNat % size.bytes = 0 := by
    rw [BitVec.toNat_ofNat]
    cases size <;> simp only [Size.bytes] at ha ⊢ <;> omega
  have h := carriedOut_overlay s (.hostRead a size) ⟨.read, BitVec.ofNat 16 (base + lane.val), size, 0⟩ d
    (hostReadAddress_addressOf s _ size) hfree rfl
    ((OtherWords.decide_alignedRead s _ size 0 haligned).trans (decideRead_overlaid s _ hwindow))
  have hoverlay : s.overlay (BitVec.ofNat 16 (base + lane.val)) size =
      (v >>> (8 * lane.val)) &&& size.mask := by
    rw [State.overlay, hvalue, readLanes_lane v base lane size hb]
  rw [hoverlay] at h
  exact h

/-! ### The words of each window -/

/-- The word that holds an offset (R169). -/
theorem toNat_word (base : Nat) (lane : Fin 4) (hb : base % 4 = 0) (h : base < 0x10000) :
    (BitVec.ofNat 16 (base + lane.val)).toNat / 4 * 4 = base := by
  have hlane := lane.isLt
  rw [BitVec.toNat_ofNat]
  omega

variable (hfree : s.portsFree)
include hfree

theorem shows_gate (w : GateWord) (hw : w.number < 0x0B) :
    Shows s d (4 * w.number) (s.gateWordValue w) := by
  refine shows_of_overlayWord s d hfree _ _ (Nat.mul_mod_right 4 _) fun lane => ?_
  have hwindow : windowOf (BitVec.ofNat 16 (4 * w.number + lane.val)) = .gate w := windowOf_lane w lane
  refine ⟨by rw [hwindow]; exact decide_eq_true hw, ?_⟩
  simp only [State.overlayWord, hwindow]

theorem shows_params (n : Fin 64) :
    Shows s d (0x100 + n.val * 4) (wordOfBytes s.config.params.byte (n.val * 4)) := by
  have hn := n.isLt
  have hb : (0x100 + n.val * 4) % 4 = 0 := by omega
  refine shows_of_overlayWord s d hfree _ _ hb fun lane => ?_
  have hwindow := windowOf_params (0x100 + n.val * 4 + lane.val) (by omega) (by omega)
  refine ⟨by rw [hwindow]; rfl, ?_⟩
  simp only [State.overlayWord, hwindow, toNat_word _ lane hb (by omega), Nat.add_sub_cancel_left]

theorem shows_descriptor (k : StationNo) (n : Fin 8) :
    Shows s d (0x200 + k.val * 32 + n.val * 4) (wordOfBytes (s.descriptor k).byte (n.val * 4)) := by
  have hk := k.isLt
  have hn := n.isLt
  have hb : (0x200 + k.val * 32 + n.val * 4) % 4 = 0 := by omega
  refine shows_of_overlayWord s d hfree _ _ hb fun lane => ?_
  have hwindow := windowOf_descriptor (0x200 + k.val * 32 + n.val * 4 + lane.val) k (by omega)
    (by omega)
  have hplace : (0x200 + k.val * 32 + n.val * 4 - 0x200) % 32 = n.val * 4 := by omega
  refine ⟨by rw [hwindow]; rfl, ?_⟩
  simp only [State.overlayWord, hwindow, toNat_word _ lane hb (by omega), hplace]

theorem shows_variant (v : Fin 6) (n : Fin 4) :
    Shows s d (0x600 + v.val * 16 + n.val * 4)
      (wordOfBytes (s.variantEntry v).byte (n.val * 4)) := by
  have hv := v.isLt
  have hn := n.isLt
  have hb : (0x600 + v.val * 16 + n.val * 4) % 4 = 0 := by omega
  refine shows_of_overlayWord s d hfree _ _ hb fun lane => ?_
  have hwindow := windowOf_variant (0x600 + v.val * 16 + n.val * 4 + lane.val) v (by omega)
    (by omega)
  have hplace : (0x600 + v.val * 16 + n.val * 4 - 0x600) % 16 = n.val * 4 := by omega
  refine ⟨by rw [hwindow]; rfl, ?_⟩
  simp only [State.overlayWord, hwindow, toNat_word _ lane hb (by omega), hplace]

theorem shows_rule (r : Fin 24) (n : Fin 2) :
    Shows s d (0x700 + r.val * 8 + n.val * 4) (wordOfBytes (s.rule r).byte (n.val * 4)) := by
  have hr := r.isLt
  have hn := n.isLt
  have hb : (0x700 + r.val * 8 + n.val * 4) % 4 = 0 := by omega
  refine shows_of_overlayWord s d hfree _ _ hb fun lane => ?_
  have hwindow := windowOf_rule (0x700 + r.val * 8 + n.val * 4 + lane.val) r (by omega) (by omega)
  have hplace : (0x700 + r.val * 8 + n.val * 4 - 0x700) % 8 = n.val * 4 := by omega
  refine ⟨by rw [hwindow]; rfl, ?_⟩
  simp only [State.overlayWord, hwindow, toNat_word _ lane hb (by omega), hplace]

theorem shows_pallet (p : PalletNo) (n : Fin 8) :
    Shows s d (0x800 + p.val * 32 + n.val * 4) (s.palletViewWord p n.val) := by
  have hp := p.isLt
  have hn := n.isLt
  have hb : (0x800 + p.val * 32 + n.val * 4) % 4 = 0 := by omega
  refine shows_of_overlayWord s d hfree _ _ hb fun lane => ?_
  have hwindow := windowOf_palletView (0x800 + p.val * 32 + n.val * 4 + lane.val) (by omega)
    (by omega)
  have hpallet : Fin.ofNat 64 ((0x800 + p.val * 32 + n.val * 4 - 0x800) / 32) = p :=
    Fin.ext (by rw [Fin.val_ofNat]; omega)
  have hplace : (0x800 + p.val * 32 + n.val * 4) % 32 / 4 = n.val := by omega
  refine ⟨by rw [hwindow]; rfl, ?_⟩
  simp only [State.overlayWord, hwindow, toNat_word _ lane hb (by omega), hpallet, hplace]

theorem shows_map (n : Fin 64) :
    Shows s d (0x1000 + n.val * 4) (wordOfBytes s.mapViewByte (n.val * 4)) := by
  have hn := n.isLt
  have hb : (0x1000 + n.val * 4) % 4 = 0 := by omega
  refine shows_of_overlayWord s d hfree _ _ hb fun lane => ?_
  have hwindow := windowOf_mapView (0x1000 + n.val * 4 + lane.val) (by omega) (by omega)
  refine ⟨by rw [hwindow]; rfl, ?_⟩
  simp only [State.overlayWord, hwindow, toNat_word _ lane hb (by omega), Nat.add_sub_cancel_left]

theorem shows_capture (k : StationNo) (n : Fin 2) :
    Shows s d (0x1100 + k.val * 8 + n.val * 4) (s.captureViewWord k n.val) := by
  have hk := k.isLt
  have hn := n.isLt
  have hb : (0x1100 + k.val * 8 + n.val * 4) % 4 = 0 := by omega
  refine shows_of_overlayWord s d hfree _ _ hb fun lane => ?_
  have hwindow := windowOf_captureView (0x1100 + k.val * 8 + n.val * 4 + lane.val) (by omega)
    (by omega)
  have hstation : Fin.ofNat 28 ((0x1100 + k.val * 8 + n.val * 4 - 0x1100) / 8) = k :=
    Fin.ext (by rw [Fin.val_ofNat]; omega)
  have hplace : (0x1100 + k.val * 8 + n.val * 4) % 8 / 4 = n.val := by omega
  refine ⟨by rw [hwindow]; rfl, ?_⟩
  simp only [State.overlayWord, hwindow, toNat_word _ lane hb (by omega), hstation, hplace]

end Sys2Proof.Machine.OverlayReads
end

section
/-! SUPPORT. The overlaid words as section 11 lays them out, word by word (R6, R13, R82, R145, R169, R186, R188, R190 to R193). -/

namespace Sys2Proof.Machine.OverlayReads

theorem Shows.of_eq {s : State} {d : Word} {base : Nat} {v w : Word} (h : Shows s d base v)
    (hvw : v = w) : Shows s d base w :=
  hvw ▸ h

theorem packSum_append (a b : List (Nat × Nat × Nat)) :
    packSum (a ++ b) = packSum a + packSum b := by
  induction a with
  | nil => exact (Nat.zero_add _).symm
  | cons f rest ih =>
    obtain ⟨lo, width, value⟩ := f
    rw [List.cons_append, packSum, packSum, ih, Nat.add_assoc]

/-- A word of four bytes is 0 where all four are. -/
theorem wordOfBytes_zero (b : Nat → Nat) (first : Nat) (h : ∀ i, first ≤ i → b i = 0) :
    wordOfBytes b first = 0 := by
  rw [wordOfBytes_eq, h first (Nat.le_refl _), h (first + 1) (by omega), h (first + 2) (by omega),
    h (first + 3) (by omega)]
  rfl

/-! ### The flag words -/

theorem setWidth_eq_pack (x : BitVec 22) : x.setWidth 32 = pack [(0, 22, x.toNat)] := by
  have hx := x.isLt
  rw [pack_eq_packSum (bound := 0) _ (by simp [Ascending])]
  apply BitVec.eq_of_toNat_eq
  simp only [packSum, BitVec.toNat_setWidth, BitVec.toNat_ofNat, Nat.mod_eq_of_lt hx]
  omega

/-! ### The line parameter block (R177) -/

section
variable (p : LineParams)

theorem params_word0 : wordOfBytes p.byte 0x00 =
    pack [(0, 8, p.stationCount.val), (8, 8, p.returnCap), (16, 8, p.variantCount.val),
      (24, 8, p.filterMs)] := by
  have hstations := p.stationCount.isLt
  have hvariants := p.variantCount.isLt
  refine wordOfBytes_eq_pack _ _ _ (by simp [Ascending]) ?_
  simp only [LineParams.byte, byteOf, packSum, Nat.reduceAdd, Nat.reduceMul, Nat.reducePow]
  omega

theorem params_word1 : wordOfBytes p.byte 0x04 =
    pack [(0, 16, p.indexSlow), (16, 16, p.indexLimit)] := by
  refine wordOfBytes_eq_pack _ _ _ (by simp [Ascending]) ?_
  simp only [LineParams.byte, byteOf, packSum, Nat.reduceAdd, Nat.reduceMul, Nat.reducePow]
  omega

theorem params_word2 : wordOfBytes p.byte 0x08 =
    pack [(0, 8, p.failRestrict), (8, 8, p.failHalt), (16, 8, p.recoverCycles),
      (24, 8, p.alignAttempts)] := by
  refine wordOfBytes_eq_pack _ _ _ (by simp [Ascending]) ?_
  simp only [LineParams.byte, byteOf, packSum, Nat.reduceAdd, Nat.reduceMul, Nat.reducePow]
  omega

theorem params_word3 : wordOfBytes p.byte 0x0C =
    pack [(0, 16, p.alignWindow), (16, 8, p.ungaugedLimit)] := by
  refine wordOfBytes_eq_pack _ _ _ (by simp [Ascending]) ?_
  simp only [LineParams.byte, byteOf, packSum, Nat.reduceAdd, Nat.reduceMul, Nat.reducePow]
  omega

theorem params_word4 : wordOfBytes p.byte 0x10 = pack [(0, 16, p.maxStep)] := by
  refine wordOfBytes_eq_pack _ _ _ (by simp [Ascending]) ?_
  simp only [LineParams.byte, byteOf, packSum, Nat.reduceAdd, Nat.reduceMul, Nat.reducePow]
  omega

theorem params_word5 : wordOfBytes p.byte 0x14 = pack [(0, 32, p.offsetLimit)] := by
  refine wordOfBytes_eq_pack _ _ _ (by simp [Ascending]) ?_
  simp only [LineParams.byte, byteOf, packSum, Nat.reduceAdd, Nat.reduceMul, Nat.reducePow]
  omega

theorem params_byte_beyond (i : Nat) (h : 0x18 ≤ i) : p.byte i = 0 := by
  unfold LineParams.byte
  split <;> omega

end

/-! ### Station descriptors (R178) -/

section
variable (e : Descriptor)

/-- The reader byte of a descriptor (R178). -/
theorem descriptor_reader_byte : e.byte 1 = match e.reader with
    | some r => r.val
    | none => 0xFF :=
  rfl

theorem descriptor_word0 : wordOfBytes e.byte 0x00 =
    pack [(0, 8, e.role.code), (8, 8, (match e.reader with | some r => r.val | none => 0xFF)),
      (16, 8, e.authority.toNat), (24, 8, e.mode.code)] := by
  have hrole : e.role.code < 4 := by cases e.role <;> decide
  have hmode : e.mode.code < 3 := by cases e.mode <;> decide
  have hauthority := e.authority.toNat_lt
  have hreader : e.byte 1 < 0x100 := by
    rw [descriptor_reader_byte]
    split <;> omega
  refine wordOfBytes_eq_pack _ _ _ (by simp [Ascending]) ?_
  rw [← descriptor_reader_byte]
  have hbytes : e.byte 0 = e.role.code ∧ e.byte 2 = e.authority.toNat ∧ e.byte 3 = e.mode.code :=
    ⟨rfl, rfl, rfl⟩
  simp only [packSum, Nat.reduceAdd, Nat.reducePow]
  omega

theorem descriptor_word1 : wordOfBytes e.byte 0x04 = pack [(0, 16, e.ack), (16, 16, e.warn)] := by
  refine wordOfBytes_eq_pack _ _ _ (by simp [Ascending]) ?_
  simp only [Descriptor.byte, byteOf, packSum, Nat.reduceAdd, Nat.reduceMul, Nat.reducePow]
  omega

theorem descriptor_word2 : wordOfBytes e.byte 0x08 = pack [(0, 16, e.limit)] := by
  refine wordOfBytes_eq_pack _ _ _ (by simp [Ascending]) ?_
  simp only [Descriptor.byte, byteOf, packSum, Nat.reduceAdd, Nat.reduceMul, Nat.reducePow]
  omega

theorem descriptor_byte_beyond (i : Nat) (h : 0x0C ≤ i) : e.byte i = 0 := by
  unfold Descriptor.byte
  split <;> omega

end

/-! ### Variant entries (R179) and patch rules (R145) -/

theorem variant_word0 (e : VariantEntry) : wordOfBytes e.byte 0 =
    pack [(0, 16, e.code), (16, 8, e.ratio)] := by
  refine wordOfBytes_eq_pack _ _ _ (by simp [Ascending]) ?_
  simp only [VariantEntry.byte, byteOf, packSum, Nat.reduceAdd, Nat.reduceMul, Nat.reducePow]
  omega

theorem variant_word1 (e : VariantEntry) : wordOfBytes e.byte 4 =
    pack [(0, 28, e.passes.toNat)] := by
  have hpasses := e.passes.isLt
  refine wordOfBytes_eq_pack _ _ _ (by simp [Ascending]) ?_
  simp only [VariantEntry.byte, byteOf, packSum, Nat.reduceAdd, Nat.reduceMul, Nat.reducePow]
  omega

theorem variant_byte_beyond (e : VariantEntry) (i : Nat) (h : 8 ≤ i) : e.byte i = 0 := by
  unfold VariantEntry.byte
  split <;> omega

theorem rule_word0 (e : PatchRule) : wordOfBytes e.byte 0 =
    pack [(0, 1, e.enabled.toNat), (1, 1, e.trap.toNat), (2, 1, (!e.signed).toNat),
      (8, 8, e.station.val), (16, 8, e.word.val), (24, 8, e.width.code)] := by
  have henabled := e.enabled.toNat_lt
  have htrap := e.trap.toNat_lt
  have hunsigned := (!e.signed).toNat_lt
  have hstation := e.station.isLt
  have hword := e.word.isLt
  have hwidth : e.width.code < 3 := by cases e.width <;> decide
  refine wordOfBytes_eq_pack _ _ _ (by simp [Ascending]) ?_
  simp only [PatchRule.byte, packSum, Nat.reduceAdd, Nat.reducePow]
  omega

theorem rule_word1 (e : PatchRule) : wordOfBytes e.byte 4 = pack [(0, 8, e.op.code)] := by
  have hop : e.op.code < 7 := by cases e.op <;> decide
  refine wordOfBytes_eq_pack _ _ _ (by simp [Ascending]) ?_
  simp only [PatchRule.byte, packSum, Nat.reduceAdd, Nat.reducePow]
  omega

/-! ### The map and queue view (R13) -/

/-- The fields that show a pallet number or none (11, Views). -/
def palletFields (at0 : Nat) (p : Option PalletNo) : List (Nat × Nat × Nat) :=
  [(at0, 6, numberOr0 p), (at0 + 7, 1, p.isSome.toNat)]

/-- The fields that show a map position (11, Views). -/
def entryFields (at0 : Nat) (e : MapEntry) : List (Nat × Nat × Nat) :=
  [(at0, 6, numberOr0 e.pallet), (at0 + 7, 1, e.pallet.isSome.toNat), (at0 + 8, 2, e.status.code)]

theorem palletByte_eq (p : Option PalletNo) :
    palletByte p = numberOr0 p % 2 ^ 6 + p.isSome.toNat % 2 ^ 1 * 2 ^ 7 := by
  cases p with
  | none => rfl
  | some q =>
    have hq := q.isLt
    simp only [palletByte, numberOr0, Option.isSome_some, Bool.toNat_true]
    omega

theorem packSum_palletFields (at0 : Nat) (p : Option PalletNo) :
    packSum (palletFields at0 p) = palletByte p * 2 ^ at0 := by
  rw [palletByte_eq]
  simp only [palletFields, packSum, Nat.pow_add]
  ring

theorem packSum_entryFields (at0 : Nat) (e : MapEntry) :
    packSum (entryFields at0 e) = (palletByte e.pallet + e.status.code * 2 ^ 8) * 2 ^ at0 := by
  have hstatus : e.status.code % 2 ^ 2 = e.status.code := by cases e.status <;> rfl
  rw [palletByte_eq]
  simp only [entryFields, packSum, Nat.pow_add, hstatus]
  ring

variable (s : State)

theorem mapViewByte_even (k : StationNo) :
    s.mapViewByte (2 * k.val) = palletByte (s.shownEntry k).pallet := by
  have hk := k.isLt
  have hplace : Fin.ofNat 28 (2 * k.val / 2) = k := Fin.ext (by rw [Fin.val_ofNat]; omega)
  simp only [State.mapViewByte, show 2 * k.val < 56 by omega, if_true, hplace,
    Nat.mul_mod_right]

theorem mapViewByte_odd (k : StationNo) :
    s.mapViewByte (2 * k.val + 1) = (s.shownEntry k).status.code := by
  have hk := k.isLt
  have hplace : Fin.ofNat 28 ((2 * k.val + 1) / 2) = k := Fin.ext (by rw [Fin.val_ofNat]; omega)
  rw [State.mapViewByte, if_pos (by omega), if_neg (by omega), hplace]

theorem mapViewByte_queue (i : Nat) (h : i < 36) :
    s.mapViewByte (0x44 + i) = palletByte s.tracking.queue[i]? := by
  rw [State.mapViewByte, if_neg (by omega), if_neg (by omega), if_pos (by omega),
    Nat.add_sub_cancel_left]

theorem mapViewByte_length : s.mapViewByte 0x40 = s.tracking.queue.length % 64 := rfl

theorem mapViewByte_beyond (i : Nat) (h : 56 ≤ i) (hlength : i ≠ 0x40)
    (hqueue : i < 0x44 ∨ 0x68 ≤ i) : s.mapViewByte i = 0 := by
  rw [State.mapViewByte, if_neg (by omega), if_neg hlength, if_neg (by omega)]

theorem map_word_entries (j k : StationNo) (h : k.val = j.val + 1) :
    wordOfBytes s.mapViewByte (2 * j.val) =
      pack (entryFields 0 (s.shownEntry j) ++ entryFields 16 (s.shownEntry k)) := by
  refine wordOfBytes_eq_pack _ _ _ (by simp [entryFields, Ascending]) ?_
  have hlow : s.mapViewByte (2 * j.val + 2) = palletByte (s.shownEntry k).pallet := by
    rw [← mapViewByte_even, h, Nat.mul_succ]
  have hhigh : s.mapViewByte (2 * j.val + 3) = (s.shownEntry k).status.code := by
    rw [← mapViewByte_odd, h, Nat.mul_succ]
  rw [mapViewByte_even, mapViewByte_odd, hlow, hhigh, packSum_append, packSum_entryFields,
    packSum_entryFields]
  omega

theorem map_word_queue (i : Nat) (h : i + 3 < 36) :
    wordOfBytes s.mapViewByte (0x44 + i) =
      pack (palletFields 0 s.tracking.queue[i]? ++ palletFields 8 s.tracking.queue[i + 1]? ++
        palletFields 16 s.tracking.queue[i + 2]? ++ palletFields 24 s.tracking.queue[i + 3]?) := by
  refine wordOfBytes_eq_pack _ _ _ (by simp [palletFields, Ascending]) ?_
  simp only [Nat.add_assoc 0x44 i]
  rw [mapViewByte_queue s i (by omega),
    mapViewByte_queue s (i + 1) (by omega), mapViewByte_queue s (i + 2) (by omega),
    mapViewByte_queue s (i + 3) h]
  simp only [packSum_append, packSum_palletFields]
  omega

theorem map_word_length :
    wordOfBytes s.mapViewByte 0x40 = pack [(0, 6, s.tracking.queue.length)] := by
  refine wordOfBytes_eq_pack _ _ _ (by simp [Ascending]) ?_
  rw [mapViewByte_length, mapViewByte_beyond s (0x40 + 1) (by omega) (by omega) (by omega),
    mapViewByte_beyond s (0x40 + 2) (by omega) (by omega) (by omega),
    mapViewByte_beyond s (0x40 + 3) (by omega) (by omega) (by omega)]
  simp only [packSum]
  omega

theorem map_word_beyond (n : Nat) (h : 14 ≤ n) (hlength : n ≠ 16) (hqueue : n < 17 ∨ 26 ≤ n) :
    wordOfBytes s.mapViewByte (n * 4) = 0 := by
  rw [wordOfBytes_eq, mapViewByte_beyond s (n * 4) (by omega) (by omega) (by omega),
    mapViewByte_beyond s (n * 4 + 1) (by omega) (by omega) (by omega),
    mapViewByte_beyond s (n * 4 + 2) (by omega) (by omega) (by omega),
    mapViewByte_beyond s (n * 4 + 3) (by omega) (by omega) (by omega)]
  rfl

/-- The entry a map position shows, by its number (R13). -/
theorem shownEntry_eq (k : StationNo) :
    s.shownEntry k =
      if k.val < s.stationCount then s.entry k else { pallet := none, status := .confirmed } := by
  simp only [State.shownEntry, State.inLine, decide_eq_true_eq, MapEntry.vacant]

/-! ### The location of a pallet (R6) -/

/-- Kind and number of a pallet's location in the terms of R6 and of section 11. -/
def Located (p : PalletNo) (kind place : Nat) : Prop :=
  let onMap (k : StationNo) : Prop := s.inLine k = true ∧ (s.entry k).pallet = some p
  (kind = 1 ∧ ∃ k, place = k.val ∧ Lowest k onMap) ∨
    ((∀ k, ¬onMap k) ∧ kind = 2 ∧ s.tracking.queue[place]? = some p ∧
      ∀ i, i < place → s.tracking.queue[i]? ≠ some p) ∨
    ((∀ k, ¬onMap k) ∧ kind = 0 ∧ place = 0 ∧ p ∉ s.tracking.queue)

/-- A pallet at no station is at its first place in the return queue (R6). -/
theorem location_of_firstQueued (p : PalletNo) (place : Nat) (h : s.stationOf p = none)
    (hplace : s.tracking.queue[place]? = some p)
    (hfirst : ∀ i, i < place → s.tracking.queue[i]? ≠ some p) : s.location p = .queue place := by
  obtain ⟨hlt, hp⟩ := List.getElem?_eq_some_iff.mp hplace
  have hfind : s.tracking.queue.findIdx? (· == p) = some place := by
    refine List.findIdx?_eq_some_iff_getElem.mpr ⟨hlt, by rw [hp, beq_self_eq_true], ?_⟩
    intro i hi hq
    exact hfirst i hi (List.getElem?_eq_some_iff.mpr ⟨Nat.lt_trans hi hlt, eq_of_beq hq⟩)
  rw [State.location, h, hfind]

theorem location_fields_of_located (p : PalletNo) (kind place : Nat)
    (h : Located s p kind place) : (s.location p).fields = (kind, place) := by
  rcases h with ⟨rfl, k, rfl, hk⟩ | ⟨hnot, rfl, hplace, hfirst⟩ | ⟨hnot, rfl, rfl, hp⟩
  · rw [PalletCommands.location_of_station s p k (PalletCommands.stationOf_eq_some s p k hk)]
    rfl
  · have hnone := PalletCommands.stationOf_eq_none s p fun k hline hp => hnot k ⟨hline, hp⟩
    rw [location_of_firstQueued s p place hnone hplace hfirst]
    rfl
  · have hnone := PalletCommands.stationOf_eq_none s p fun k hline hp => hnot k ⟨hline, hp⟩
    rw [PalletCommands.location_of_neither s p hnone hp]
    rfl

/-! ### The station capture view (R82) -/

/-- A mark of an engagement, clear where there is none. -/
theorem toNat_any (e : Option Engagement) (mark : Engagement → Bool) :
    (e.any mark).toNat = match e with
      | some e => (mark e).toNat
      | none => 0 := by
  cases e <;> rfl

end Sys2Proof.Machine.OverlayReads
end

section
/-! SUPPORT. The obligation of the overlaid reads, window by window (R169). -/

namespace Sys2Proof.Machine.OverlayReads

/-- Settles O41: each overlaid window shows the part's words, and these are the words of section 11. -/
theorem overlaidReads : Obligations.OverlaidReads := by
  intro s d hfree shows number capture shown queued report drop params
  refine ⟨?gate, ?pallets, ?map, ?captures, ?params, ?descriptors, ?variants, ?rules, by decide⟩
  case gate =>
    exact ⟨shows_gate s d hfree .status0 (by decide), shows_gate s d hfree .status1 (by decide),
      shows_gate s d hfree .faultSets (by decide),
      (shows_gate s d hfree .flagWord (by decide)).of_eq (setWidth_eq_pack _),
      (shows_gate s d hfree .flagEnable (by decide)).of_eq (setWidth_eq_pack _),
      shows_gate s d hfree .report0 (by decide), shows_gate s d hfree .report1 (by decide),
      shows_gate s d hfree .refusalCount (by decide), shows_gate s d hfree .dropRecord (by decide),
      shows_gate s d hfree .indexCapture (by decide), shows_gate s d hfree .lastTag (by decide)⟩
  case pallets =>
    intro p r base onMap located
    refine ⟨fun kind place h => ?_, shows_pallet s d hfree p 2, shows_pallet s d hfree p 3,
      shows_pallet s d hfree p 4, shows_pallet s d hfree p 5, shows_pallet s d hfree p 6,
      shows_pallet s d hfree p 7⟩
    have hplace := location_fields_of_located s p kind place h
    exact ⟨(shows_pallet s d hfree p 0).of_eq (by simp only [State.palletViewWord, hplace]; rfl),
      (shows_pallet s d hfree p 1).of_eq (by simp only [State.palletViewWord, hplace]; rfl)⟩
  case map =>
    intro n
    refine (shows_map s d hfree n).of_eq ?_
    split
    case isTrue hentry =>
      have hshown (at0 : Nat) (k : StationNo) :
          shown at0 k.val = entryFields at0 (s.shownEntry k) := by
        rw [shownEntry_eq]
        exact dif_pos k.isLt
      have hfirst := hshown 0 ⟨2 * n.val, by omega⟩
      have hsecond := hshown 16 ⟨2 * n.val + 1, by omega⟩
      rw [hfirst, hsecond, ← map_word_entries s ⟨2 * n.val, by omega⟩ _ rfl]
      exact congrArg _ (show n.val * 4 = 2 * (2 * n.val) by omega)
    case isFalse hentry =>
      split
      case isTrue hlength =>
        rw [hlength]
        exact map_word_length s
      case isFalse hlength =>
        split
        case isTrue hqueue =>
          have hplace : n.val * 4 = 0x44 + 4 * (n.val - 17) := by omega
          rw [hplace]
          exact map_word_queue s (4 * (n.val - 17)) (by omega)
        case isFalse hqueue => exact map_word_beyond s n.val (by omega) hlength (by omega)
  case captures =>
    intro k st present runs
    exact ⟨(shows_capture s d hfree k 0).of_eq (by
      simp only [State.captureViewWord, toNat_any]; rfl), shows_capture s d hfree k 1⟩
  case params =>
    rintro ⟨n, hn⟩
    refine (shows_params s d hfree ⟨n, hn⟩).of_eq ?_
    match n with
    | 0 => exact params_word0 _
    | 1 => exact params_word1 _
    | 2 => exact params_word2 _
    | 3 => exact params_word3 _
    | 4 => exact params_word4 _
    | 5 => exact params_word5 _
    | n + 6 => exact wordOfBytes_zero _ _ fun i hi => params_byte_beyond _ i (Nat.le_trans (by simp only; omega) hi)
  case descriptors =>
    rintro k ⟨n, hn⟩ e
    refine (shows_descriptor s d hfree k ⟨n, hn⟩).of_eq ?_
    match n with
    | 0 => exact descriptor_word0 e
    | 1 => exact descriptor_word1 e
    | 2 => exact descriptor_word2 e
    | n + 3 =>
      exact wordOfBytes_zero _ _ fun i hi => descriptor_byte_beyond _ i (Nat.le_trans (by simp only; omega) hi)
  case variants =>
    rintro v ⟨n, hn⟩ e
    refine (shows_variant s d hfree v ⟨n, hn⟩).of_eq ?_
    match n with
    | 0 => exact variant_word0 e
    | 1 => exact variant_word1 e
    | n + 2 =>
      exact wordOfBytes_zero _ _ fun i hi => variant_byte_beyond _ i (Nat.le_trans (by simp only; omega) hi)
  case rules =>
    rintro r ⟨n, hn⟩ e
    refine (shows_rule s d hfree r ⟨n, hn⟩).of_eq ?_
    match n with
    | 0 => exact rule_word0 e
    | 1 => exact rule_word1 e

end Sys2Proof.Machine.OverlayReads
end
